-- ==== Sys2Proof/Word.lean ====
section
/-!
DEFINITION. The plain data the LHCORE block moves: ticks, the named codes of the spec (axis,
lighthouse, class, pulse type, debouncer mode), the transient records (pulse, event, condition), and
the words an operation can be presented as. Arithmetic on them is in Machine/Operands.lean, where it
can be mended.
-/

namespace Sys2Proof

/-- A timestamp, width or delta: an unsigned 32-bit value (R12, R67). -/
abbrev Tick := BitVec 32

/-- The two axis instances; `angle_type` is the same quantity (R28, R85). -/
inductive Axis where
  | az
  | el
deriving DecidableEq, Repr

/-- `axis` / `angle_type`: 0 azimuth, 1 elevation (R85). -/
def Axis.code : Axis → Nat
  | .az => 0
  | .el => 1

/-- The two base stations (R85). -/
inductive Lighthouse where
  | a
  | b
deriving DecidableEq, Repr

/-- `lighthouse_id`: 0 = A, 1 = B (R85). -/
def Lighthouse.code : Lighthouse → Nat
  | .a => 0
  | .b => 1

/-- How one axis FSM sees a routed pulse: the columns of the transition table (R71). -/
inductive PulseClass where
  | other
  | sync
  | skip
  | laser
deriving DecidableEq, Repr

/-- The class codes of R71. -/
def PulseClass.code : PulseClass → BitVec 2
  | .other => 0
  | .sync => 1
  | .skip => 2
  | .laser => 3

/-- The two states of the debouncer's automaton, `deb.mode` (R21). -/
inductive DebMode where
  | notDebouncing
  | debouncing
deriving DecidableEq, Repr

/-- The codes of `deb.mode`: 0 Not-Debouncing, 1 Debouncing (R21). -/
def DebMode.code : DebMode → Bool
  | .notDebouncing => false
  | .debouncing => true

/-- A pulse type is a 3-bit code; codes 6 and 7 are reserved and still have an operation, RT_RSVD
(R69, R77, R152). -/
abbrev PulseType := BitVec 3

namespace PulseType

/-- INVALID, code 0 (R69). -/
def invalid : PulseType := 0
/-- LASER, code 1 (R69). -/
def laser : PulseType := 1
/-- AZ_SYNC, code 2 (R69). -/
def azSync : PulseType := 2
/-- AZ_SKIP, code 3 (R69). -/
def azSkip : PulseType := 3
/-- EL_SYNC, code 4 (R69). -/
def elSync : PulseType := 4
/-- EL_SKIP, code 5 (R69). -/
def elSkip : PulseType := 5

end PulseType

/-- `X.state` is a 3-bit register; codes 5, 6 and 7 are reserved and still have an operation, AX_RSVD
(R29, R70, R182). -/
abbrev AxisState := BitVec 3

namespace AxisState

/-- Idle, code 0 (R70). -/
def idle : AxisState := 0
/-- WaitSkipFromA, code 1 (R70). -/
def waitSkipFromA : AxisState := 1
/-- SeenBSync, code 2 (R70). -/
def seenBSync : AxisState := 2
/-- ExpectLaserA, code 3 (R70). -/
def expectLaserA : AxisState := 3
/-- ExpectLaserB, code 4 (R70). -/
def expectLaserB : AxisState := 4

end AxisState

/-- The Pulse record: it exists only within the step that completed it (R69, R142). -/
structure Pulse where
  rise : Tick
  width : Tick
  type : PulseType
deriving DecidableEq, Repr

/-- The Emitted Event record (R72). -/
structure Event where
  axis : Axis
  lighthouse : Lighthouse
  sync : Tick
  laser : Tick
deriving DecidableEq, Repr

/-- The three conditions `signal` can mark, with the fields each records (R211, R212, R213). None is
an exception: no operation is stopped or diverted (R210). -/
inductive Condition where
  /-- Code 1, signalled by CL_NONE: the width that lies in no bin. -/
  | unclassifiablePulse (width : Tick)
  /-- Code 2: the instance and the state it left. -/
  | sequenceViolation (axis : Axis) (fromState : AxisState)
  /-- Code 3, signalled by EVAL on rejection. -/
  | noiseRejection (axis : Axis) (lighthouse : Lighthouse) (delta last : Tick)
deriving DecidableEq, Repr

/-- The seven encoding formats (R65). -/
inductive Format where
  | inp
  | deb
  | pa
  | cl
  | rt
  | ax
  | em
deriving DecidableEq, Repr

/-- A word presented to the block. The environment presents IN words only (R16, R66). The other forms
carry a micro-operation's selector word (R74 to R79) together with the operands its rule names, and
present that operation alone (DESIGN CHOICE, log entry 7). -/
inductive PortWord where
  /-- An input transaction: the 35-bit IN word (R66). -/
  | inp (w : BitVec 35)
  /-- A DEB selector with the sample it is computed for (R74). -/
  | deb (sel : BitVec 4) (level : Bool) (ts : Tick)
  /-- A PA selector (R75). -/
  | pa (sel : BitVec 2)
  /-- A CL selector with the width it is computed for (R76). -/
  | cl (sel : BitVec 4) (width : Tick)
  /-- An RT selector, a pulse type code (R77). -/
  | rt (sel : BitVec 3)
  /-- An AX selector with the instance and the pulse's rise timestamp (R78). -/
  | ax (sel : BitVec 5) (axis : Axis) (ts : Tick)
  /-- An EM selector with the event's two timestamps (R79). -/
  | em (sel : BitVec 2) (sync laser : Tick)
  /-- Bits of no format the spec gives; no operation has them. -/
  | unformatted (nbits value : Nat)
deriving DecidableEq, Repr

/-- Why a word is no operation. -/
inductive DecodeError where
  /-- The bits are of no format of R65. -/
  | noFormat
  /-- A CL selector above 9, a bin index that cannot occur (R76). -/
  | clSelectorReserved (sel : BitVec 4)
deriving DecidableEq, Repr

end Sys2Proof
end

