-- ==== Sys2Proof/Config.lean ====
section
/-!
DEFINITION. The parameters of an instance of the block (00_scope.md section 3): the record `Cfg`, the
reference bins of R115, and the OPEN parameters as a constant with no body.
-/

namespace Sys2Proof

/-- One pulse-width bin: `lo <= width < hi` before the bias is added (R7, R102). -/
structure Bin where
  lo : Int
  hi : Int
deriving DecidableEq, Repr, Inhabited

/-- The OPEN parameters (R5, R6, R7). The nine bins are named by the CL operation that selects them;
their numbers 1 to 9 are those of `Tunables.bin` (R76). -/
structure Tunables where
  widthBias : Int
  debThresh : Nat
  laser : Bin
  azSyncD0 : Bin
  azSyncD1 : Bin
  elSyncD0 : Bin
  elSyncD1 : Bin
  azSkipD0 : Bin
  azSkipD1 : Bin
  elSkipD0 : Bin
  elSkipD1 : Bin
deriving DecidableEq, Repr, Inhabited

/-- The nine bins in index order 1 to 9 (R76, R102). -/
def Tunables.bins (t : Tunables) : List Bin :=
  [t.laser, t.azSyncD0, t.azSyncD1, t.elSyncD0, t.elSyncD1, t.azSkipD0, t.azSkipD1, t.elSkipD0,
    t.elSkipD1]

/-- Bin `k`, for `k` in 1..9 (R76). -/
def Tunables.bin (t : Tunables) : Nat → Option Bin
  | 1 => some t.laser
  | 2 => some t.azSyncD0
  | 3 => some t.azSyncD1
  | 4 => some t.elSyncD0
  | 5 => some t.elSyncD1
  | 6 => some t.azSkipD0
  | 7 => some t.azSkipD1
  | 8 => some t.elSkipD0
  | 9 => some t.elSkipD1
  | _ => none

/-- The whole configuration `cfg` (00_scope.md, summary of parameters). -/
structure Cfg extends Tunables where
  devThresh : Nat
  debugState : Bool
  firstDeltaAccept : Bool
deriving DecidableEq, Repr

/-- The reference bins `REF` of R115 with a vote threshold `n`, which is not part of `REF`. Used by
tests, and as the one well-formed value that shows there is one (log entry 4). -/
def Config.ref (n : Nat) : Tunables :=
  { widthBias := 0
    debThresh := n
    laser := ⟨101, 585⟩
    azSyncD0 := ⟨586, 675⟩
    azSyncD1 := ⟨781, 885⟩
    elSyncD0 := ⟨675, 781⟩
    elSyncD1 := ⟨885, 989⟩
    azSkipD0 := ⟨989, 1083⟩
    azSkipD1 := ⟨1200, 1300⟩
    elSkipD0 := ⟨1083, 1200⟩
    elSkipD1 := ⟨1300, 1400⟩ }

/-- The values an instantiation chooses for the OPEN parameters (R5, R6, R7; decisions D10, D11, D12).
No body: nothing can be proved of them. Log entry 4. -/
opaque Config.openTunables : Tunables

end Sys2Proof
end

