-- ==== Sys2Proof/Syntax.lean ====
section
/-!
DEFINITION. `Instr`: one constructor per row of spec/opcode_table.json. The three input transactions
carry every field of the IN word, the ignored ones too; a micro-operation carries the bits its pattern
leaves open and the operands its rule names, so that no bit of a word is dropped.
-/

namespace Sys2Proof

/-- The operations of the block: three input transactions (R66) and the micro-operations (R74 to R79).
AX_RSVD has two rows, hence two constructors. -/
inductive Instr where
  -- IN
  | reset (v s : Bool) (t : Tick)
  | idle (s : Bool) (t : Tick)
  | sample (level : Bool) (ts : Tick)
  -- DEB, pattern `m x r z`
  | debHold (r z : Bool) (level : Bool) (ts : Tick)
  | debStart (z : Bool) (level : Bool) (ts : Tick)
  | debStartCommit (z : Bool) (level : Bool) (ts : Tick)
  | debDown (r : Bool) (level : Bool) (ts : Tick)
  | debAbort (r : Bool) (level : Bool) (ts : Tick)
  | debUp (z : Bool) (level : Bool) (ts : Tick)
  | debCommit (z : Bool) (level : Bool) (ts : Tick)
  -- PA, pattern `c s`
  | paNone (s : Bool)
  | paFall
  | paRise
  -- CL, the bin index
  | clNone (width : Tick)
  | clLaser (width : Tick)
  | clAzSyncD0 (width : Tick)
  | clAzSyncD1 (width : Tick)
  | clElSyncD0 (width : Tick)
  | clElSyncD1 (width : Tick)
  | clAzSkipD0 (width : Tick)
  | clAzSkipD1 (width : Tick)
  | clElSkipD0 (width : Tick)
  | clElSkipD1 (width : Tick)
  -- RT, the pulse type code
  | rtInvalid
  | rtLaser
  | rtAzSync
  | rtAzSkip
  | rtElSync
  | rtElSkip
  | rtRsvd (t : Bool)
  -- AX, pattern `{X.state, class}`
  | axIdleOther (x : Axis) (ts : Tick)
  | axIdleSync (x : Axis) (ts : Tick)
  | axIdleSkip (x : Axis) (ts : Tick)
  | axIdleLaser (x : Axis) (ts : Tick)
  | axWsaOther (x : Axis) (ts : Tick)
  | axWsaSync (x : Axis) (ts : Tick)
  | axWsaSkip (x : Axis) (ts : Tick)
  | axWsaLaser (x : Axis) (ts : Tick)
  | axSbsOther (x : Axis) (ts : Tick)
  | axSbsSync (x : Axis) (ts : Tick)
  | axSbsSkip (x : Axis) (ts : Tick)
  | axSbsLaser (x : Axis) (ts : Tick)
  | axElaOther (x : Axis) (ts : Tick)
  | axElaSync (x : Axis) (ts : Tick)
  | axElaSkip (x : Axis) (ts : Tick)
  | axElaLaser (x : Axis) (ts : Tick)
  | axElbOther (x : Axis) (ts : Tick)
  | axElbSync (x : Axis) (ts : Tick)
  | axElbSkip (x : Axis) (ts : Tick)
  | axElbLaser (x : Axis) (ts : Tick)
  | axRsvd5 (c : BitVec 2) (x : Axis) (ts : Tick)
  | axRsvd67 (s : Bool) (c : BitVec 2) (x : Axis) (ts : Tick)
  -- EM, pattern `a l`
  | emitAzA (e : Event)
  | emitAzB (e : Event)
  | emitElA (e : Event)
  | emitElB (e : Event)
deriving DecidableEq, Repr

/-- The format an operation is encoded in: the "format" column of the opcode table (R65). -/
def Instr.format : Instr → Format
  | .reset _ _ _ => .inp
  | .idle _ _ => .inp
  | .sample _ _ => .inp
  | .debHold _ _ _ _ => .deb
  | .debStart _ _ _ => .deb
  | .debStartCommit _ _ _ => .deb
  | .debDown _ _ _ => .deb
  | .debAbort _ _ _ => .deb
  | .debUp _ _ _ => .deb
  | .debCommit _ _ _ => .deb
  | .paNone _ => .pa
  | .paFall => .pa
  | .paRise => .pa
  | .clNone _ => .cl
  | .clLaser _ => .cl
  | .clAzSyncD0 _ => .cl
  | .clAzSyncD1 _ => .cl
  | .clElSyncD0 _ => .cl
  | .clElSyncD1 _ => .cl
  | .clAzSkipD0 _ => .cl
  | .clAzSkipD1 _ => .cl
  | .clElSkipD0 _ => .cl
  | .clElSkipD1 _ => .cl
  | .rtInvalid => .rt
  | .rtLaser => .rt
  | .rtAzSync => .rt
  | .rtAzSkip => .rt
  | .rtElSync => .rt
  | .rtElSkip => .rt
  | .rtRsvd _ => .rt
  | .axIdleOther _ _ => .ax
  | .axIdleSync _ _ => .ax
  | .axIdleSkip _ _ => .ax
  | .axIdleLaser _ _ => .ax
  | .axWsaOther _ _ => .ax
  | .axWsaSync _ _ => .ax
  | .axWsaSkip _ _ => .ax
  | .axWsaLaser _ _ => .ax
  | .axSbsOther _ _ => .ax
  | .axSbsSync _ _ => .ax
  | .axSbsSkip _ _ => .ax
  | .axSbsLaser _ _ => .ax
  | .axElaOther _ _ => .ax
  | .axElaSync _ _ => .ax
  | .axElaSkip _ _ => .ax
  | .axElaLaser _ _ => .ax
  | .axElbOther _ _ => .ax
  | .axElbSync _ _ => .ax
  | .axElbSkip _ _ => .ax
  | .axElbLaser _ _ => .ax
  | .axRsvd5 _ _ _ => .ax
  | .axRsvd67 _ _ _ _ => .ax
  | .emitAzA _ => .em
  | .emitAzB _ => .em
  | .emitElA _ => .em
  | .emitElB _ => .em

end Sys2Proof
end

