-- ==== Sys2Proof/WellFormed.lean ====
section
/-!
DEFINITION. The two well-formedness checks: `WF(cfg)` of R11, carried by every configuration the
machine runs with, and the check on an instruction's operands.
-/

namespace Sys2Proof

/-- The clauses of `WF(cfg)` (R11) on the OPEN parameters: a positive vote threshold, nine non-empty
bins of representable widths once the bias is added, pairwise disjoint. -/
abbrev Tunables.WF (t : Tunables) : Prop :=
  1 ≤ t.debThresh ∧
    (∀ b ∈ t.bins, 0 ≤ b.lo + t.widthBias ∧ b.lo < b.hi ∧ b.hi + t.widthBias ≤ 2 ^ 32) ∧
    t.bins.Pairwise fun j k => j.hi ≤ k.lo ∨ k.hi ≤ j.lo

/-- `WF(cfg)`, all of R11. -/
abbrev Cfg.WF (c : Cfg) : Prop :=
  c.toTunables.WF ∧ 1 ≤ c.devThresh ∧ c.devThresh ≤ 2 ^ 32

/-- A configuration with the proof that it is well formed: the model gives no meaning to any other,
because no other can be built (R11). -/
structure WfCfg extends Cfg where
  wf : toCfg.WF
deriving DecidableEq, Repr

/-- A model refuses a configuration that is not well formed (R11, U1). -/
def Cfg.checked (c : Cfg) : Option WfCfg :=
  if h : c.WF then some ⟨c, h⟩ else none

theorem Config.ref_wf : (Config.ref 2).WF := by decide

/-- The OPEN parameters of the instance, whatever well-formed values it has: the constant of
Config.lean when it is well formed, and some well-formed value when it is not (log entry 4). -/
def Config.tunables : Tunables :=
  if Config.openTunables.WF then Config.openTunables else Config.ref 2

theorem Config.tunables_wf : Config.tunables.WF := by
  unfold Config.tunables
  split
  · assumption
  · exact Config.ref_wf

/-- The configuration of this hardware: the OPEN parameters are left open, the others have the values
the spec gives them, `DEV_THRESH = 4630`, `DEBUG_STATE = false`, `FIRST_DELTA_ACCEPT = true`
(R8, R9, R10). -/
def Config.cfg : WfCfg :=
  { toTunables := Config.tunables
    devThresh := 4630
    debugState := false
    firstDeltaAccept := true
    wf := ⟨Config.tunables_wf, by decide, by decide⟩ }

/-- An EMIT operation's operand is an event with that operation's axis and lighthouse (R205); every
other operand admits every value of its type. -/
def Instr.WellFormed : Instr → Bool
  | .emitAzA e => e.axis == .az && e.lighthouse == .a
  | .emitAzB e => e.axis == .az && e.lighthouse == .b
  | .emitElA e => e.axis == .el && e.lighthouse == .a
  | .emitElB e => e.axis == .el && e.lighthouse == .b
  | .reset _ _ _ | .idle _ _ | .sample _ _ => true
  | .debHold _ _ _ _ | .debStart _ _ _ | .debStartCommit _ _ _ | .debDown _ _ _ | .debAbort _ _ _
  | .debUp _ _ _ | .debCommit _ _ _ => true
  | .paNone _ | .paFall | .paRise => true
  | .clNone _ | .clLaser _ | .clAzSyncD0 _ | .clAzSyncD1 _ | .clElSyncD0 _ | .clElSyncD1 _
  | .clAzSkipD0 _ | .clAzSkipD1 _ | .clElSkipD0 _ | .clElSkipD1 _ => true
  | .rtInvalid | .rtLaser | .rtAzSync | .rtAzSkip | .rtElSync | .rtElSkip | .rtRsvd _ => true
  | .axIdleOther _ _ | .axIdleSync _ _ | .axIdleSkip _ _ | .axIdleLaser _ _ => true
  | .axWsaOther _ _ | .axWsaSync _ _ | .axWsaSkip _ _ | .axWsaLaser _ _ => true
  | .axSbsOther _ _ | .axSbsSync _ _ | .axSbsSkip _ _ | .axSbsLaser _ _ => true
  | .axElaOther _ _ | .axElaSync _ _ | .axElaSkip _ _ | .axElaLaser _ _ => true
  | .axElbOther _ _ | .axElbSync _ _ | .axElbSkip _ _ | .axElbLaser _ _ => true
  | .axRsvd5 _ _ _ | .axRsvd67 _ _ _ _ => true

end Sys2Proof
end

