-- ==== Sys2Proof/Decode.lean ====
section
/-!
DEFINITION. Decoding a presented word into an operation, total and rejecting by name, and the encoder
written from the same tables (30_encoding.md). After them, how a word of spec/opcode_table.json is
presented.
-/

namespace Sys2Proof

/-- An IN word is one of RESET, IDLE, SAMPLE; none is illegal (R66). -/
def decodeIn (w : BitVec 35) : Instr :=
  if w.getLsbD 34 then .reset (w.getLsbD 33) (w.getLsbD 32) (w.extractLsb' 0 32)
  else if w.getLsbD 33 then .sample (w.getLsbD 32) (w.extractLsb' 0 32)
  else .idle (w.getLsbD 32) (w.extractLsb' 0 32)

/-- The DEB patterns over `m x r z` (R74). -/
def decodeDeb (sel : BitVec 4) (level : Bool) (ts : Tick) : Instr :=
  let r := sel.getLsbD 1
  let z := sel.getLsbD 0
  match sel.getLsbD 3, sel.getLsbD 2, r, z with
  | false, false, _, _ => .debHold r z level ts
  | false, true, false, _ => .debStart z level ts
  | false, true, true, _ => .debStartCommit z level ts
  | true, false, _, false => .debDown r level ts
  | true, false, _, true => .debAbort r level ts
  | true, true, false, _ => .debUp z level ts
  | true, true, true, _ => .debCommit z level ts

/-- The PA patterns over `c s` (R75). -/
def decodePa (sel : BitVec 2) : Instr :=
  match sel.getLsbD 1, sel.getLsbD 0 with
  | false, s => .paNone s
  | true, false => .paFall
  | true, true => .paRise

/-- The CL rows, by bin index; 10 to 15 are no row (R76). -/
def decodeCl (sel : BitVec 4) (width : Tick) : Except DecodeError Instr :=
  match sel.toNat with
  | 0 => .ok (.clNone width)
  | 1 => .ok (.clLaser width)
  | 2 => .ok (.clAzSyncD0 width)
  | 3 => .ok (.clAzSyncD1 width)
  | 4 => .ok (.clElSyncD0 width)
  | 5 => .ok (.clElSyncD1 width)
  | 6 => .ok (.clAzSkipD0 width)
  | 7 => .ok (.clAzSkipD1 width)
  | 8 => .ok (.clElSkipD0 width)
  | 9 => .ok (.clElSkipD1 width)
  | _ => .error (.clSelectorReserved sel)

/-- The RT rows, by pulse type code; 6 and 7 are RT_RSVD (R77). -/
def decodeRt (sel : BitVec 3) : Instr :=
  match sel.toNat with
  | 0 => .rtInvalid
  | 1 => .rtLaser
  | 2 => .rtAzSync
  | 3 => .rtAzSkip
  | 4 => .rtElSync
  | 5 => .rtElSkip
  | _ => .rtRsvd (sel.getLsbD 0)

/-- The class whose code is `c` (R71). -/
def PulseClass.ofCode (c : BitVec 2) : PulseClass :=
  match c.toNat with
  | 0 => .other
  | 1 => .sync
  | 2 => .skip
  | _ => .laser

/-- The AX patterns: three state bits, then two class bits (R78). -/
def decodeAx (sel : BitVec 5) (x : Axis) (ts : Tick) : Instr :=
  let c := sel.extractLsb' 0 2
  match (sel.extractLsb' 2 3).toNat, PulseClass.ofCode c with
  | 0, .other => .axIdleOther x ts
  | 0, .sync => .axIdleSync x ts
  | 0, .skip => .axIdleSkip x ts
  | 0, .laser => .axIdleLaser x ts
  | 1, .other => .axWsaOther x ts
  | 1, .sync => .axWsaSync x ts
  | 1, .skip => .axWsaSkip x ts
  | 1, .laser => .axWsaLaser x ts
  | 2, .other => .axSbsOther x ts
  | 2, .sync => .axSbsSync x ts
  | 2, .skip => .axSbsSkip x ts
  | 2, .laser => .axSbsLaser x ts
  | 3, .other => .axElaOther x ts
  | 3, .sync => .axElaSync x ts
  | 3, .skip => .axElaSkip x ts
  | 3, .laser => .axElaLaser x ts
  | 4, .other => .axElbOther x ts
  | 4, .sync => .axElbSync x ts
  | 4, .skip => .axElbSkip x ts
  | 4, .laser => .axElbLaser x ts
  | 5, _ => .axRsvd5 c x ts
  | _, _ => .axRsvd67 (sel.getLsbD 2) c x ts

/-- The EM patterns over `a l`; the event's axis and lighthouse are the selector's two bits (R79). -/
def decodeEm (sel : BitVec 2) (sync laser : Tick) : Instr :=
  match sel.getLsbD 1, sel.getLsbD 0 with
  | false, false => .emitAzA ⟨.az, .a, sync, laser⟩
  | false, true => .emitAzB ⟨.az, .b, sync, laser⟩
  | true, false => .emitElA ⟨.el, .a, sync, laser⟩
  | true, true => .emitElB ⟨.el, .b, sync, laser⟩

/-- Decoding, total on every presented word; what is no operation is rejected by name (R65, R81). -/
def decode : PortWord → Except DecodeError Instr
  | .inp w => .ok (decodeIn w)
  | .deb sel level ts => .ok (decodeDeb sel level ts)
  | .pa sel => .ok (decodePa sel)
  | .cl sel width => decodeCl sel width
  | .rt sel => .ok (decodeRt sel)
  | .ax sel x ts => .ok (decodeAx sel x ts)
  | .em sel sync laser => .ok (decodeEm sel sync laser)
  | .unformatted _ _ => .error .noFormat

/-! ### The encoder -/

/-- The IN word of its four fields, bit 34 first (R66). -/
def inWord (rst valid level : Bool) (ts : Tick) : BitVec 35 :=
  (BitVec.ofBool rst ++ BitVec.ofBool valid ++ BitVec.ofBool level ++ ts).cast rfl

/-- The DEB selector of its four bits (R74). -/
def debWord (m x r z : Bool) : BitVec 4 :=
  (BitVec.ofBool m ++ BitVec.ofBool x ++ BitVec.ofBool r ++ BitVec.ofBool z).cast rfl

/-- The PA and EM selectors of their two bits (R75, R79). -/
def pairWord (hi lo : Bool) : BitVec 2 :=
  (BitVec.ofBool hi ++ BitVec.ofBool lo).cast rfl

/-- The AX selector `{state, class}` (R78). -/
def axWord (state : AxisState) (cls : BitVec 2) : BitVec 5 :=
  (state ++ cls).cast rfl

/-- The word of an operation, from the encoding tables of 30_encoding.md. -/
def encode : Instr → PortWord
  | .reset v s t => .inp (inWord true v s t)
  | .idle s t => .inp (inWord false false s t)
  | .sample level ts => .inp (inWord false true level ts)
  | .debHold r z level ts => .deb (debWord false false r z) level ts
  | .debStart z level ts => .deb (debWord false true false z) level ts
  | .debStartCommit z level ts => .deb (debWord false true true z) level ts
  | .debDown r level ts => .deb (debWord true false r false) level ts
  | .debAbort r level ts => .deb (debWord true false r true) level ts
  | .debUp z level ts => .deb (debWord true true false z) level ts
  | .debCommit z level ts => .deb (debWord true true true z) level ts
  | .paNone s => .pa (pairWord false s)
  | .paFall => .pa (pairWord true false)
  | .paRise => .pa (pairWord true true)
  | .clNone w => .cl 0b0000 w
  | .clLaser w => .cl 0b0001 w
  | .clAzSyncD0 w => .cl 0b0010 w
  | .clAzSyncD1 w => .cl 0b0011 w
  | .clElSyncD0 w => .cl 0b0100 w
  | .clElSyncD1 w => .cl 0b0101 w
  | .clAzSkipD0 w => .cl 0b0110 w
  | .clAzSkipD1 w => .cl 0b0111 w
  | .clElSkipD0 w => .cl 0b1000 w
  | .clElSkipD1 w => .cl 0b1001 w
  | .rtInvalid => .rt 0b000
  | .rtLaser => .rt 0b001
  | .rtAzSync => .rt 0b010
  | .rtAzSkip => .rt 0b011
  | .rtElSync => .rt 0b100
  | .rtElSkip => .rt 0b101
  | .rtRsvd t => .rt (0b11#2 ++ BitVec.ofBool t)
  | .axIdleOther x ts => .ax 0b00000 x ts
  | .axIdleSync x ts => .ax 0b00001 x ts
  | .axIdleSkip x ts => .ax 0b00010 x ts
  | .axIdleLaser x ts => .ax 0b00011 x ts
  | .axWsaOther x ts => .ax 0b00100 x ts
  | .axWsaSync x ts => .ax 0b00101 x ts
  | .axWsaSkip x ts => .ax 0b00110 x ts
  | .axWsaLaser x ts => .ax 0b00111 x ts
  | .axSbsOther x ts => .ax 0b01000 x ts
  | .axSbsSync x ts => .ax 0b01001 x ts
  | .axSbsSkip x ts => .ax 0b01010 x ts
  | .axSbsLaser x ts => .ax 0b01011 x ts
  | .axElaOther x ts => .ax 0b01100 x ts
  | .axElaSync x ts => .ax 0b01101 x ts
  | .axElaSkip x ts => .ax 0b01110 x ts
  | .axElaLaser x ts => .ax 0b01111 x ts
  | .axElbOther x ts => .ax 0b10000 x ts
  | .axElbSync x ts => .ax 0b10001 x ts
  | .axElbSkip x ts => .ax 0b10010 x ts
  | .axElbLaser x ts => .ax 0b10011 x ts
  | .axRsvd5 c x ts => .ax (axWord 0b101 c) x ts
  | .axRsvd67 s c x ts => .ax (axWord (0b11#2 ++ BitVec.ofBool s) c) x ts
  | .emitAzA e => .em (pairWord false false) e.sync e.laser
  | .emitAzB e => .em (pairWord false true) e.sync e.laser
  | .emitElA e => .em (pairWord true false) e.sync e.laser
  | .emitElB e => .em (pairWord true true) e.sync e.laser

/-- The format a word is presented in; none for bits of no format. -/
def PortWord.format : PortWord → Option Format
  | .inp _ => some .inp
  | .deb _ _ _ => some .deb
  | .pa _ => some .pa
  | .cl _ _ => some .cl
  | .rt _ => some .rt
  | .ax _ _ _ => some .ax
  | .em _ _ _ => some .em
  | .unformatted _ _ => none

/-! ### Words of the opcode table

The table's formats overlap as bare numbers: `00000` is AX_IDLE_OTHER, and the same bits are DEB_HOLD,
PA_NONE, CL_NONE, RT_INVALID and EMIT_AZ_A in their own formats. A number of bits chooses the format as
log entry 9 says; operands are zero. -/

/-- The word that `nbits` bits with the value `w` present (log entry 9). -/
def PortWord.ofTable (nbits w : Nat) : PortWord :=
  if (nbits = 40 ∨ nbits = 35) ∧ w < 2 ^ 35 then .inp (BitVec.ofNat 35 w)
  else if (nbits = 8 ∨ nbits = 5) ∧ w < 2 ^ 5 then .ax (BitVec.ofNat 5 w) .az 0
  else if nbits = 4 ∧ w < 2 ^ 4 then .deb (BitVec.ofNat 4 w) false 0
  else if nbits = 3 ∧ w < 2 ^ 3 then .rt (BitVec.ofNat 3 w)
  else if nbits = 2 ∧ w < 2 ^ 2 then .pa (BitVec.ofNat 2 w)
  else .unformatted nbits w

/-- The instruction the decoder reads from a word of the opcode table. -/
def decodeTableWord (nbits w : Nat) : Option Instr :=
  (decode (PortWord.ofTable nbits w)).toOption

end Sys2Proof
end

