-- ==== Sys2Proof/Machine/State.lean ====
section
/-!
DEFINITION. The machine's state as plain data: the 17 registers of R20, and the model's own fields (the
configuration, the words still to be presented, the outputs of the step just taken); the outcomes that
are not a next state; the state after reset.
-/

namespace Sys2Proof.Machine

/-- The block has no fault: "The block never faults, never gets stuck and never refuses an input"
(R210). So nobody raises one, which is as safe as the spec is. -/
inductive Fault
deriving DecidableEq, Repr

/-- Why a presented word is not run. -/
inductive Refusal where
  /-- An operation that has no meaning in the model yet; raised by an arm of `exec`. Safe: nothing is
  claimed of such an operation. -/
  | notModelled (mnemonic : String)
  /-- The word is no operation of the spec; raised by `step` when the decoder rejects it. Safe: the
  environment presents IN words only, and every IN word is an operation (R66, R81). -/
  | noOperation (why : DecodeError)
deriving DecidableEq, Repr

/-- The six debouncer registers (R21 to R26). `votes` is the `VW`-bit vote counter; the width shows in
the operations that write it (log entry 11). -/
structure Deb where
  mode : DebMode
  stable : Bool
  ts : Tick
  target : Bool
  candTs : Tick
  votes : Nat
deriving DecidableEq, Repr

/-- The pulse assembler's register (R27). -/
structure Pa where
  riseTs : Tick
deriving DecidableEq, Repr

/-- The five registers of one axis FSM instance (R28 to R33). A `last` register of 0 means that no
previous delta exists (R32). -/
structure AxisRegs where
  state : AxisState
  pendA : Tick
  pendB : Tick
  lastA : Tick
  lastB : Tick
deriving DecidableEq, Repr

/-- What the step just taken has put out (R36), with the values that pass from one sub-step of a SAMPLE
to the next (R92). Not a register of the block: every step starts from `Outputs.quiet`, and no rule
reads it in a later step (R40; log entry 6). -/
structure Outputs where
  /-- The strobe `deb_commit` (R120). -/
  debCommit : Bool
  /-- The pulse type the classifier produced, output `pulse_type` (R102). -/
  pulseType : Option PulseType
  /-- The completed pulse; present exactly when `pulse_valid` is 1 (R142). -/
  pulse : Option Pulse
  /-- The classes the router gave `az` and `el`; absent when it routed nothing (R145). -/
  route : Option (PulseClass × PulseClass)
  /-- The step's ordered list of emitted events (R15). -/
  events : List Event
  /-- `evt_payload[az]` (R204). -/
  payloadAz : Option (BitVec 24)
  /-- `evt_payload[el]` (R204). -/
  payloadEl : Option (BitVec 24)
  /-- The conditions signalled in the step, in the order signalled (R15, R210). -/
  conditions : List Condition
deriving DecidableEq, Repr

/-- No strobe asserted: the outputs of a step that does nothing (R36, R91). -/
def Outputs.quiet : Outputs :=
  { debCommit := false
    pulseType := none
    pulse := none
    route := none
    events := []
    payloadAz := none
    payloadEl := none
    conditions := [] }

end Sys2Proof.Machine

namespace Sys2Proof.Machine

/-- The state of the machine. -/
structure State where
  /-- The configuration: an argument of the spec's step function, fixed for the life of an instance
  (R16, R37; log entry 3). -/
  cfg : WfCfg
  /-- The debouncer. -/
  deb : Deb
  /-- The pulse assembler. -/
  pa : Pa
  /-- The azimuth axis FSM, instance 0. -/
  az : AxisRegs
  /-- The elevation axis FSM, instance 1. -/
  el : AxisRegs
  /-- The words the environment will present, the next one first (R16; log entry 1). -/
  input : List PortWord
  /-- The outputs of the step just taken. -/
  out : Outputs
deriving DecidableEq, Repr

/-- The debouncer's reset values (R41, R240). -/
def Deb.reset : Deb :=
  { mode := .notDebouncing, stable := false, ts := 0, target := false, candTs := 0, votes := 0 }

/-- The pulse assembler's reset value (R41, R240). -/
def Pa.reset : Pa :=
  { riseTs := 0 }

/-- An axis FSM instance's reset values (R41, R240). -/
def AxisRegs.reset : AxisRegs :=
  { state := AxisState.idle, pendA := 0, pendB := 0, lastA := 0, lastB := 0 }

/-- The machine right after RESET (R41, R240): every register 0, nothing asserted, nothing presented,
the configuration of this hardware. -/
def State.reset : State :=
  { cfg := Config.cfg
    deb := Deb.reset
    pa := Pa.reset
    az := AxisRegs.reset
    el := AxisRegs.reset
    input := []
    out := Outputs.quiet }

end Sys2Proof.Machine
end

