-- ==== Sys2Proof/Machine/Operands.lean ====
section
/-!
DEFINITION. What operations compute from their operands: the arithmetic of R13, the vote counter's
width, the bin test and the bin index, the payload bytes, and the selector words of R74 to R79.
-/

namespace Sys2Proof.Machine

/-- `sub32(a, b) = (a - b) mod 2^32` (R13). -/
def sub32 (a b : Tick) : Tick :=
  a - b

/-- `absdiff` on the two values taken as naturals, no wrap (R13, decision D17). -/
def absdiff (a b : Tick) : Nat :=
  if a.toNat ≥ b.toNat then a.toNat - b.toNat else b.toNat - a.toNat

/-- `low8(v)`: bits 7:0 (R13). -/
def low8 (v : Tick) : BitVec 8 :=
  v.extractLsb' 0 8

/-! ### The vote counter (R20, R26) -/

/-- `VW`, the width of the vote counter: the smallest that holds `cfg.DEB_THRESH` (R20). -/
def voteWidth (t : Tunables) : Nat :=
  max 1 (if t.debThresh = 0 then 0 else t.debThresh.log2 + 1)

/-- `deb.votes + 1` in a register of `VW` bits. Within R123's condition nothing is lost. -/
def votesUp (t : Tunables) (v : Nat) : Nat :=
  (v + 1) % 2 ^ voteWidth t

/-- `deb.votes - 1` in a register of `VW` bits. Within R125's condition nothing is borrowed. -/
def votesDown (t : Tunables) (v : Nat) : Nat :=
  if v = 0 then 2 ^ voteWidth t - 1 else v - 1

/-! ### The classifier's operands (R101, R102) -/

/-- `width := sub32(fall_ts, rise_ts)` (R101). -/
def pulseWidth (rise fall : Tick) : Tick :=
  sub32 fall rise

/-- The bin test, in the integers (R102). -/
def inBin (b : Bin) (bias : Int) (width : Tick) : Bool :=
  decide (b.lo + bias ≤ (width.toNat : Int)) && decide ((width.toNat : Int) < b.hi + bias)

/-- The bin index of a width: the number of the bin that contains it, 0 if none does. At most one does
in a well-formed configuration, so the order of the tests has no effect (R76, R114). -/
def binIndex (t : Tunables) (width : Tick) : Nat :=
  if inBin t.laser t.widthBias width then 1
  else if inBin t.azSyncD0 t.widthBias width then 2
  else if inBin t.azSyncD1 t.widthBias width then 3
  else if inBin t.elSyncD0 t.widthBias width then 4
  else if inBin t.elSyncD1 t.widthBias width then 5
  else if inBin t.azSkipD0 t.widthBias width then 6
  else if inBin t.azSkipD1 t.widthBias width then 7
  else if inBin t.elSkipD0 t.widthBias width then 8
  else if inBin t.elSkipD1 t.widthBias width then 9
  else 0

/-- `BIN_TYPE[k]`; INVALID for the index 0 (R102). -/
def binType : Nat → PulseType
  | 1 => PulseType.laser
  | 2 => PulseType.azSync
  | 3 => PulseType.azSync
  | 4 => PulseType.elSync
  | 5 => PulseType.elSync
  | 6 => PulseType.azSkip
  | 7 => PulseType.azSkip
  | 8 => PulseType.elSkip
  | 9 => PulseType.elSkip
  | _ => PulseType.invalid

/-- `classify(rise_ts, fall_ts)`, the classifier as the pure function of its contract (R100). The
operations are in Machine/Classifier.lean. -/
def classify (t : Tunables) (rise fall : Tick) : PulseType :=
  binType (binIndex t (pulseWidth rise fall))

/-! ### The emitter's operands (R201 to R204) -/

/-- `byte0 := zext_8((lighthouse_id << 1) & angle_type)`, on naturals, with AND (R201). -/
def payloadByte0 (e : Event) : BitVec 8 :=
  BitVec.ofNat 8 ((e.lighthouse.code <<< 1) &&& e.axis.code)

/-- `byte1 := low8(sync_timestamp)` (R202). -/
def payloadByte1 (e : Event) : BitVec 8 :=
  low8 e.sync

/-- `byte2 := low8(laser_timestamp)` (R203). -/
def payloadByte2 (e : Event) : BitVec 8 :=
  low8 e.laser

/-- The 3-byte payload, byte0 in bits 23:16 (R73, R204). -/
def payload (e : Event) : BitVec 24 :=
  payloadByte0 e ++ payloadByte1 e ++ payloadByte2 e

/-! ### Selector words -/

/-- The DEB selector `{m, x, r, z}` of a sample of level `level` (R74). -/
def debSelector (s : State) (level : Bool) : BitVec 4 :=
  let m := s.deb.mode.code
  let x := if m then level == s.deb.target else level != s.deb.stable
  let r := if m then decide (s.deb.votes + 1 ≥ s.cfg.debThresh) else decide (1 ≥ s.cfg.debThresh)
  let z := decide (s.deb.votes ≤ 1)
  debWord m x r z

/-- The PA selector `{c, s}`, after the step's DEB operation (R75). -/
def paSelector (s : State) : BitVec 2 :=
  pairWord s.out.debCommit s.deb.stable

/-- The CL selector: the bin index (R76). -/
def clSelector (t : Tunables) (width : Tick) : BitVec 4 :=
  BitVec.ofNat 4 (binIndex t width)

/-- The RT selector: the pulse type code (R77). -/
def rtSelector (type : PulseType) : BitVec 3 :=
  type

/-- The AX selector `{X.state, class}` (R78). -/
def axSelector (state : AxisState) (cls : PulseClass) : BitVec 5 :=
  axWord state cls.code

/-- The EM selector `{axis, lighthouse_id}` (R79). -/
def emSelector (e : Event) : BitVec 2 :=
  pairWord (e.axis == .el) (e.lighthouse == .b)

end Sys2Proof.Machine
end

