-- ==== Sys2Proof/Machine/Ops.lean ====
section
/-!
DEFINITION. The named operations over the state: what begins a step, reading and writing the registers
of each owner, and the four forms of R15 and R36 by which a step puts something out. The block takes no
exception and has no return from one (R210, R217, R219): `State.signal` is all a condition does.
-/

namespace Sys2Proof.Machine

/-! ### The step -/

/-- The IDLE word with the ignored fields written as 0 (R83). -/
def idleWord : PortWord :=
  .inp 0

/-- The word on the input port: the next one the environment presents, and with none a word with
`rst = 0` and `valid = 0` (log entry 2). -/
def State.fetch (s : State) : PortWord :=
  s.input.headD idleWord

/-- A step begins with every strobe 0: each is 0 in any step that does not assert it (R36). -/
def State.beginStep (s : State) : State :=
  { s with out := Outputs.quiet }

/-- The word on the port is taken, and its step begins (R16, R94). -/
def State.advance (s : State) : State :=
  { s with input := s.input.tail, out := Outputs.quiet }

/-! ### Registers, by owner (R43) -/

/-- The debouncer's registers and its strobe `deb_commit`, written together: `(deb', deb_commit)` of
R92. -/
def State.setDeb (s : State) (d : Deb) (commit : Bool) : State :=
  { s with deb := d, out := { s.out with debCommit := commit } }

/-- The registers of an axis instance. -/
def State.axis (s : State) : Axis → AxisRegs
  | .az => s.az
  | .el => s.el

/-- Write the registers of an axis instance; the other instance is untouched (R28). -/
def State.setAxis (s : State) (x : Axis) (r : AxisRegs) : State :=
  match x with
  | .az => { s with az := r }
  | .el => { s with el := r }

/-- `X.state <- st`. -/
def State.axisGoto (s : State) (x : Axis) (st : AxisState) : State :=
  s.setAxis x { s.axis x with state := st }

/-- `X.pend_a <- ts; X.state <- st`. -/
def State.recordA (s : State) (x : Axis) (ts : Tick) (st : AxisState) : State :=
  s.setAxis x { s.axis x with pendA := ts, state := st }

/-- `X.pend_b <- ts; X.state <- st`. -/
def State.recordB (s : State) (x : Axis) (ts : Tick) (st : AxisState) : State :=
  s.setAxis x { s.axis x with pendB := ts, state := st }

/-- `X.pend_L` (R161). -/
def AxisRegs.pend (r : AxisRegs) : Lighthouse → Tick
  | .a => r.pendA
  | .b => r.pendB

/-- `X.last_L` (R161). -/
def AxisRegs.last (r : AxisRegs) : Lighthouse → Tick
  | .a => r.lastA
  | .b => r.lastB

/-- `X.last_L <- delta` (R161). -/
def AxisRegs.setLast (r : AxisRegs) (l : Lighthouse) (delta : Tick) : AxisRegs :=
  match l with
  | .a => { r with lastA := delta }
  | .b => { r with lastB := delta }

/-! ### What a step puts out -/

/-- `signal <Condition>(info)`: it changes no register and not what the operation does (R15). -/
def State.signal (s : State) (c : Condition) : State :=
  { s with out := { s.out with conditions := s.out.conditions ++ [c] } }

/-- `emit Event{...}`: append the event to the step's list (R15). -/
def State.raiseEvent (s : State) (e : Event) : State :=
  { s with out := { s.out with events := s.out.events ++ [e] } }

/-- The classifier's result, on output `pulse_type` (R102). -/
def State.setPulseType (s : State) (type : PulseType) : State :=
  { s with out := { s.out with pulseType := some type } }

/-- A completed pulse or none, with `pulse_valid` (R140 to R142). -/
def State.setPulse (s : State) (p : Option Pulse) : State :=
  { s with out := { s.out with pulse := p } }

/-- The classes for `az` and `el`, or nothing routed (R145). -/
def State.setRoute (s : State) (r : Option (PulseClass × PulseClass)) : State :=
  { s with out := { s.out with route := r } }

/-- `evt_payload[event.axis] := payload` (R204, R205). -/
def State.setPayload (s : State) (x : Axis) (p : BitVec 24) : State :=
  match x with
  | .az => { s with out := { s.out with payloadAz := some p } }
  | .el => { s with out := { s.out with payloadEl := some p } }

/-! ### Shared operations -/

/-- Fall back to Idle from a state that loses a sequence: `X.state <- 0; signal SequenceViolation`
(R212). -/
def State.violate (s : State) (x : Axis) (fromState : AxisState) : State :=
  (s.axisGoto x AxisState.idle).signal (.sequenceViolation x fromState)

/-- Whether EVAL accepts a delta: strictly closer than `cfg.DEV_THRESH` to the last one, and where there
is no last one (0), as `cfg.FIRST_DELTA_ACCEPT` says (R161). -/
def evalAccepts (c : Cfg) (delta last : Tick) : Bool :=
  if last ≠ 0 then decide (absdiff delta last < c.devThresh) else c.firstDeltaAccept

/-- `EVAL(X, L, ts)`: emit or reject, and update `X.last_L` in both cases (R161). -/
def State.eval (s : State) (x : Axis) (l : Lighthouse) (ts : Tick) : State :=
  let p := (s.axis x).pend l
  let delta := sub32 ts p
  let last := (s.axis x).last l
  let s' := if evalAccepts s.cfg.toCfg delta last then s.raiseEvent ⟨x, l, p, ts⟩
    else s.signal (.noiseRejection x l delta last)
  s'.setAxis x ((s.axis x).setLast l delta)

/-- `EMIT(event)`, the pseudocode all four EMIT operations share (R205). -/
def State.emitPayload (s : State) (e : Event) : State :=
  s.setPayload e.axis (payload e)

end Sys2Proof.Machine
end

