-- ==== Sys2Proof/Machine/Flags.lean ====
section
/-!
DEFINITION. The block has no flags (R36). This file gives the output ports of a step as R36 lists them,
read from the state after the step, the records of R67 to R73 as bit vectors, and the diagnostics of
R225. An output that R36 calls meaningful only with its strobe is absent without it (log entry 6).
-/

namespace Sys2Proof.Machine

/-- `deb_stable` (R36). -/
def State.debStable (s : State) : Bool := s.deb.stable

/-- `deb_ts` (R36). -/
def State.debTs (s : State) : Tick := s.deb.ts

/-- `deb_commit` (R36). -/
def State.debCommit (s : State) : Bool := s.out.debCommit

/-- `pulse_valid` (R36). -/
def State.pulseValid (s : State) : Bool := s.out.pulse.isSome

/-- `pulse_rise_ts` (R36). -/
def State.pulseRiseTs (s : State) : Option Tick := s.out.pulse.map (·.rise)

/-- `pulse_width` (R36). -/
def State.pulseWidthPort (s : State) : Option Tick := s.out.pulse.map (·.width)

/-- `pulse_type` (R36): the classifier's result. -/
def State.pulseTypePort (s : State) : Option PulseType := s.out.pulseType

/-- The event axis instance `x` emitted in the step, if it did (R36, R72). -/
def State.event (s : State) (x : Axis) : Option Event :=
  s.out.events.find? fun e => e.axis == x

/-- `evt_valid[X]` (R36). -/
def State.evtValid (s : State) (x : Axis) : Bool := (s.event x).isSome

/-- `evt_lh[X]` (R36): 0 for A, 1 for B. -/
def State.evtLh (s : State) (x : Axis) : Option (BitVec 1) :=
  (s.event x).map fun e => BitVec.ofNat 1 e.lighthouse.code

/-- `evt_sync_ts[X]` (R36). -/
def State.evtSyncTs (s : State) (x : Axis) : Option Tick := (s.event x).map (·.sync)

/-- `evt_laser_ts[X]` (R36). -/
def State.evtLaserTs (s : State) (x : Axis) : Option Tick := (s.event x).map (·.laser)

/-- `evt_payload[X]` (R36, R204). -/
def State.evtPayload (s : State) : Axis → Option (BitVec 24)
  | .az => s.out.payloadAz
  | .el => s.out.payloadEl

/-! ### Diagnostics (R225) -/

/-- The condition codes (R211 to R214). -/
def conditionCode : Condition → BitVec 2
  | .unclassifiablePulse _ => 1
  | .sequenceViolation _ _ => 2
  | .noiseRejection _ _ _ _ => 3

/-- The condition reported: none unless `cfg.DEBUG_STATE`, and when more than one was signalled the
first, which is the azimuth instance's (R216 (e), R225). -/
def State.diagnosed (s : State) : Option Condition :=
  if s.cfg.debugState then s.out.conditions.head? else none

/-- `diag_valid` (R225). -/
def State.diagValid (s : State) : Bool := s.diagnosed.isSome

/-- `diag_code`, 0 when `diag_valid` is 0 (R225). -/
def State.diagCode (s : State) : BitVec 2 :=
  match s.diagnosed with
  | some c => conditionCode c
  | none => 0

/-- `diag_info`: the fields the condition records (R225). -/
def State.diagInfo (s : State) : Option Condition := s.diagnosed

/-! ### The records as bit vectors -/

/-- Edge Sample, 33 bits `{gpio_state, timestamp}` (R67). -/
def edgeSampleBits (level : Bool) (ts : Tick) : BitVec 33 :=
  BitVec.ofBool level ++ ts

/-- Debounced Transition, 33 bits `{deb.stable, deb.ts}` (R68). -/
def State.transitionBits (s : State) : BitVec 33 :=
  BitVec.ofBool s.deb.stable ++ s.deb.ts

/-- Pulse, 67 bits `{type, width, rise_timestamp}` (R69). -/
def pulseBits (p : Pulse) : BitVec 67 :=
  p.type ++ p.width ++ p.rise

/-- Emitted Event, 66 bits `{axis, lighthouse_id, sync_timestamp, laser_timestamp}` (R72). -/
def eventBits (e : Event) : BitVec 66 :=
  BitVec.ofNat 1 e.axis.code ++ BitVec.ofNat 1 e.lighthouse.code ++ e.sync ++ e.laser

end Sys2Proof.Machine
end

