-- ==== Sys2Proof/Machine/Classifier.lean ====
section
/-!
DEFINITION. The pulse width classifier (41_pulse_classifier.md): the ten CL operations, the choice of
one by the width's bin (R76, R102), and the operations as instructions. None writes a register.
-/

namespace Sys2Proof.Machine

/-- CL_NONE: INVALID, and UnclassifiablePulse is signalled (R112). -/
def clNone (width : Tick) (s : State) : State :=
  (s.setPulseType PulseType.invalid).signal (.unclassifiablePulse width)

/-- CL_LASER (R103). -/
def clLaser (s : State) : State := s.setPulseType PulseType.laser

/-- CL_AZ_SYNC_D0 (R104). -/
def clAzSyncD0 (s : State) : State := s.setPulseType PulseType.azSync

/-- CL_AZ_SYNC_D1 (R105). -/
def clAzSyncD1 (s : State) : State := s.setPulseType PulseType.azSync

/-- CL_EL_SYNC_D0 (R106). -/
def clElSyncD0 (s : State) : State := s.setPulseType PulseType.elSync

/-- CL_EL_SYNC_D1 (R107). -/
def clElSyncD1 (s : State) : State := s.setPulseType PulseType.elSync

/-- CL_AZ_SKIP_D0 (R108). -/
def clAzSkipD0 (s : State) : State := s.setPulseType PulseType.azSkip

/-- CL_AZ_SKIP_D1 (R109). -/
def clAzSkipD1 (s : State) : State := s.setPulseType PulseType.azSkip

/-- CL_EL_SKIP_D0 (R110). -/
def clElSkipD0 (s : State) : State := s.setPulseType PulseType.elSkip

/-- CL_EL_SKIP_D1 (R111). -/
def clElSkipD1 (s : State) : State := s.setPulseType PulseType.elSkip

/-- Exactly one CL operation, the one of the bin that contains the width (R76, R102). -/
def runClassifier (width : Tick) (s : State) : State :=
  match binIndex s.cfg.toTunables width with
  | 1 => clLaser s
  | 2 => clAzSyncD0 s
  | 3 => clAzSyncD1 s
  | 4 => clElSyncD0 s
  | 5 => clElSyncD1 s
  | 6 => clAzSkipD0 s
  | 7 => clAzSkipD1 s
  | 8 => clElSkipD0 s
  | 9 => clElSkipD1 s
  | _ => clNone width s

/-- CL_NONE (R112). -/
def execClNone (width : Tick) (s : State) : Host.Outcome State Fault Refusal :=
  .next (clNone width s)

/-- CL_LASER (R103). -/
def execClLaser (_width : Tick) (s : State) : Host.Outcome State Fault Refusal :=
  .next (clLaser s)

/-- CL_AZ_SYNC_D0 (R104). -/
def execClAzSyncD0 (_width : Tick) (s : State) : Host.Outcome State Fault Refusal :=
  .next (clAzSyncD0 s)

/-- CL_AZ_SYNC_D1 (R105). -/
def execClAzSyncD1 (_width : Tick) (s : State) : Host.Outcome State Fault Refusal :=
  .next (clAzSyncD1 s)

/-- CL_EL_SYNC_D0 (R106). -/
def execClElSyncD0 (_width : Tick) (s : State) : Host.Outcome State Fault Refusal :=
  .next (clElSyncD0 s)

/-- CL_EL_SYNC_D1 (R107). -/
def execClElSyncD1 (_width : Tick) (s : State) : Host.Outcome State Fault Refusal :=
  .next (clElSyncD1 s)

/-- CL_AZ_SKIP_D0 (R108). -/
def execClAzSkipD0 (_width : Tick) (s : State) : Host.Outcome State Fault Refusal :=
  .next (clAzSkipD0 s)

/-- CL_AZ_SKIP_D1 (R109). -/
def execClAzSkipD1 (_width : Tick) (s : State) : Host.Outcome State Fault Refusal :=
  .next (clAzSkipD1 s)

/-- CL_EL_SKIP_D0 (R110). -/
def execClElSkipD0 (_width : Tick) (s : State) : Host.Outcome State Fault Refusal :=
  .next (clElSkipD0 s)

/-- CL_EL_SKIP_D1 (R111). -/
def execClElSkipD1 (_width : Tick) (s : State) : Host.Outcome State Fault Refusal :=
  .next (clElSkipD1 s)

end Sys2Proof.Machine
end

