-- ==== Sys2Proof/Machine/Assembler.lean ====
section
/-!
DEFINITION. The pulse assembler (43_pulse_assembler_router.md section 1): the three PA operations, the
choice of one by `{deb_commit, deb'.stable}`, and the operations as instructions. They run after the
step's DEB operation, so `deb'` is the state's `deb`.
-/

namespace Sys2Proof.Machine

/-- PA_NONE: no register is written, no pulse (R140). -/
def paNone (s : State) : State :=
  s.setPulse none

/-- PA_RISE: latch the confirmed rise; no pulse (R141). -/
def paRise (s : State) : State :=
  { s with pa := { riseTs := s.deb.ts } }.setPulse none

/-- PA_FALL: the width of the pulse that rose at `pa.rise_ts`, exactly one CL operation on it, and the
Pulse record; no register is written (R142). -/
def paFall (s : State) : State :=
  let rise := s.pa.riseTs
  let width := pulseWidth rise s.deb.ts
  let s' := runClassifier width s
  s'.setPulse (s'.out.pulseType.map fun type => ⟨rise, width, type⟩)

/-- Exactly one PA operation, chosen by the strobe and the new stable level (R75, R92). -/
def assemble (s : State) : State :=
  if s.out.debCommit then
    if s.deb.stable then paRise s else paFall s
  else paNone s

/-- PA_NONE (R140). -/
def execPaNone (_s : Bool) (s : State) : Host.Outcome State Fault Refusal :=
  .next (paNone s)

/-- PA_FALL (R142). -/
def execPaFall (s : State) : Host.Outcome State Fault Refusal :=
  .next (paFall s)

/-- PA_RISE (R141). -/
def execPaRise (s : State) : Host.Outcome State Fault Refusal :=
  .next (paRise s)

end Sys2Proof.Machine
end

