-- ==== Sys2Proof/Machine/AxisFsm.lean ====
section
/-!
DEFINITION. The axis synchronization state machine (44_axis_fsm.md): the twenty AX operations and
AX_RSVD, the whole function of R183, and the operations as instructions. `x` is the instance; `ts` is
the pulse's rise timestamp. Registers an operation does not name keep their values.
-/

namespace Sys2Proof.Machine

/-- AX_IDLE_OTHER: already Idle, nothing is lost (R162). -/
def axIdleOther (x : Axis) (s : State) : State :=
  s.axisGoto x AxisState.idle

/-- AX_IDLE_SYNC: the first sync from Idle is taken to be lighthouse A's (R163). -/
def axIdleSync (x : Axis) (ts : Tick) (s : State) : State :=
  s.recordA x ts AxisState.waitSkipFromA

/-- AX_IDLE_SKIP: the skip's timestamp is not recorded (R164). -/
def axIdleSkip (x : Axis) (s : State) : State :=
  s.axisGoto x AxisState.seenBSync

/-- AX_IDLE_LASER: a laser with no sequence before it is ignored (R165). -/
def axIdleLaser (x : Axis) (s : State) : State :=
  s.axisGoto x AxisState.idle

/-- AX_WSA_OTHER: the sequence is lost (R166). -/
def axWsaOther (x : Axis) (s : State) : State :=
  s.violate x AxisState.waitSkipFromA

/-- AX_WSA_SYNC: a second sync replaces the first (R167). -/
def axWsaSync (x : Axis) (ts : Tick) (s : State) : State :=
  s.recordA x ts AxisState.waitSkipFromA

/-- AX_WSA_SKIP: the only entry to ExpectLaserA (R168). -/
def axWsaSkip (x : Axis) (s : State) : State :=
  s.axisGoto x AxisState.expectLaserA

/-- AX_WSA_LASER: a laser after only one sync cannot be attributed (R169). -/
def axWsaLaser (x : Axis) (s : State) : State :=
  s.violate x AxisState.waitSkipFromA

/-- AX_SBS_OTHER: the sequence is lost (R170). -/
def axSbsOther (x : Axis) (s : State) : State :=
  s.violate x AxisState.seenBSync

/-- AX_SBS_SYNC: the only write of `X.pend_b`, the only entry to ExpectLaserB (R171). -/
def axSbsSync (x : Axis) (ts : Tick) (s : State) : State :=
  s.recordB x ts AxisState.expectLaserB

/-- AX_SBS_SKIP: stay in SeenBSync (R172). -/
def axSbsSkip (x : Axis) (s : State) : State :=
  s.axisGoto x AxisState.seenBSync

/-- AX_SBS_LASER: no event, no `last` register touched (R173). -/
def axSbsLaser (x : Axis) (s : State) : State :=
  s.violate x AxisState.seenBSync

/-- AX_ELA_OTHER: the sequence is lost (R174). -/
def axElaOther (x : Axis) (s : State) : State :=
  s.violate x AxisState.expectLaserA

/-- AX_ELA_SYNC: the awaited laser was missed; a new sequence, not a failure (R175). -/
def axElaSync (x : Axis) (ts : Tick) (s : State) : State :=
  s.recordA x ts AxisState.waitSkipFromA

/-- AX_ELA_SKIP: a new sequence that starts with a skip (R176). -/
def axElaSkip (x : Axis) (s : State) : State :=
  s.axisGoto x AxisState.seenBSync

/-- AX_ELA_LASER: to Idle whether or not the event is emitted (R177). -/
def axElaLaser (x : Axis) (ts : Tick) (s : State) : State :=
  (s.eval x .a ts).axisGoto x AxisState.idle

/-- AX_ELB_OTHER: the sequence is lost (R178). -/
def axElbOther (x : Axis) (s : State) : State :=
  s.violate x AxisState.expectLaserB

/-- AX_ELB_SYNC: recorded as a pending A sync, not B (R179). -/
def axElbSync (x : Axis) (ts : Tick) (s : State) : State :=
  s.recordA x ts AxisState.waitSkipFromA

/-- AX_ELB_SKIP: a new sequence that starts with a skip (R180). -/
def axElbSkip (x : Axis) (s : State) : State :=
  s.axisGoto x AxisState.seenBSync

/-- AX_ELB_LASER: to Idle whether or not the event is emitted (R181). -/
def axElbLaser (x : Axis) (ts : Tick) (s : State) : State :=
  (s.eval x .b ts).axisGoto x AxisState.idle

/-- AX_RSVD from state 5: to Idle, nothing signalled (R182). -/
def axRsvd5 (x : Axis) (s : State) : State :=
  s.axisGoto x AxisState.idle

/-- AX_RSVD from states 6 and 7: to Idle, nothing signalled (R182). -/
def axRsvd67 (x : Axis) (s : State) : State :=
  s.axisGoto x AxisState.idle

/-- `AX(X, class, ts)`: exactly one AX operation, by the instance's state and the class (R160, R183). -/
def axisStep (x : Axis) (cls : PulseClass) (ts : Tick) (s : State) : State :=
  match (s.axis x).state.toNat, cls with
  | 0, .other => axIdleOther x s
  | 0, .sync => axIdleSync x ts s
  | 0, .skip => axIdleSkip x s
  | 0, .laser => axIdleLaser x s
  | 1, .other => axWsaOther x s
  | 1, .sync => axWsaSync x ts s
  | 1, .skip => axWsaSkip x s
  | 1, .laser => axWsaLaser x s
  | 2, .other => axSbsOther x s
  | 2, .sync => axSbsSync x ts s
  | 2, .skip => axSbsSkip x s
  | 2, .laser => axSbsLaser x s
  | 3, .other => axElaOther x s
  | 3, .sync => axElaSync x ts s
  | 3, .skip => axElaSkip x s
  | 3, .laser => axElaLaser x ts s
  | 4, .other => axElbOther x s
  | 4, .sync => axElbSync x ts s
  | 4, .skip => axElbSkip x s
  | 4, .laser => axElbLaser x ts s
  | 5, _ => axRsvd5 x s
  | _, _ => axRsvd67 x s

/-! ### The operations as instructions -/

/-- AX_IDLE_OTHER (R162). -/
def execAxIdleOther (x : Axis) (_ts : Tick) (s : State) : Host.Outcome State Fault Refusal :=
  .next (axIdleOther x s)

/-- AX_IDLE_SYNC (R163). -/
def execAxIdleSync (x : Axis) (ts : Tick) (s : State) : Host.Outcome State Fault Refusal :=
  .next (axIdleSync x ts s)

/-- AX_IDLE_SKIP (R164). -/
def execAxIdleSkip (x : Axis) (_ts : Tick) (s : State) : Host.Outcome State Fault Refusal :=
  .next (axIdleSkip x s)

/-- AX_IDLE_LASER (R165). -/
def execAxIdleLaser (x : Axis) (_ts : Tick) (s : State) : Host.Outcome State Fault Refusal :=
  .next (axIdleLaser x s)

/-- AX_WSA_OTHER (R166). -/
def execAxWsaOther (x : Axis) (_ts : Tick) (s : State) : Host.Outcome State Fault Refusal :=
  .next (axWsaOther x s)

/-- AX_WSA_SYNC (R167). -/
def execAxWsaSync (x : Axis) (ts : Tick) (s : State) : Host.Outcome State Fault Refusal :=
  .next (axWsaSync x ts s)

/-- AX_WSA_SKIP (R168). -/
def execAxWsaSkip (x : Axis) (_ts : Tick) (s : State) : Host.Outcome State Fault Refusal :=
  .next (axWsaSkip x s)

/-- AX_WSA_LASER (R169). -/
def execAxWsaLaser (x : Axis) (_ts : Tick) (s : State) : Host.Outcome State Fault Refusal :=
  .next (axWsaLaser x s)

/-- AX_SBS_OTHER (R170). -/
def execAxSbsOther (x : Axis) (_ts : Tick) (s : State) : Host.Outcome State Fault Refusal :=
  .next (axSbsOther x s)

/-- AX_SBS_SYNC (R171). -/
def execAxSbsSync (x : Axis) (ts : Tick) (s : State) : Host.Outcome State Fault Refusal :=
  .next (axSbsSync x ts s)

/-- AX_SBS_SKIP (R172). -/
def execAxSbsSkip (x : Axis) (_ts : Tick) (s : State) : Host.Outcome State Fault Refusal :=
  .next (axSbsSkip x s)

/-- AX_SBS_LASER (R173). -/
def execAxSbsLaser (x : Axis) (_ts : Tick) (s : State) : Host.Outcome State Fault Refusal :=
  .next (axSbsLaser x s)

/-- AX_ELA_OTHER (R174). -/
def execAxElaOther (x : Axis) (_ts : Tick) (s : State) : Host.Outcome State Fault Refusal :=
  .next (axElaOther x s)

/-- AX_ELA_SYNC (R175). -/
def execAxElaSync (x : Axis) (ts : Tick) (s : State) : Host.Outcome State Fault Refusal :=
  .next (axElaSync x ts s)

/-- AX_ELA_SKIP (R176). -/
def execAxElaSkip (x : Axis) (_ts : Tick) (s : State) : Host.Outcome State Fault Refusal :=
  .next (axElaSkip x s)

/-- AX_ELA_LASER (R177). -/
def execAxElaLaser (x : Axis) (ts : Tick) (s : State) : Host.Outcome State Fault Refusal :=
  .next (axElaLaser x ts s)

/-- AX_ELB_OTHER (R178). -/
def execAxElbOther (x : Axis) (_ts : Tick) (s : State) : Host.Outcome State Fault Refusal :=
  .next (axElbOther x s)

/-- AX_ELB_SYNC (R179). -/
def execAxElbSync (x : Axis) (ts : Tick) (s : State) : Host.Outcome State Fault Refusal :=
  .next (axElbSync x ts s)

/-- AX_ELB_SKIP (R180). -/
def execAxElbSkip (x : Axis) (_ts : Tick) (s : State) : Host.Outcome State Fault Refusal :=
  .next (axElbSkip x s)

/-- AX_ELB_LASER (R181). -/
def execAxElbLaser (x : Axis) (ts : Tick) (s : State) : Host.Outcome State Fault Refusal :=
  .next (axElbLaser x ts s)

/-- AX_RSVD, pattern `101cc` (R182). -/
def execAxRsvd5 (_c : BitVec 2) (x : Axis) (_ts : Tick) (s : State) :
    Host.Outcome State Fault Refusal :=
  .next (axRsvd5 x s)

/-- AX_RSVD, pattern `11scc` (R182). -/
def execAxRsvd67 (_b : Bool) (_c : BitVec 2) (x : Axis) (_ts : Tick) (s : State) :
    Host.Outcome State Fault Refusal :=
  .next (axRsvd67 x s)

end Sys2Proof.Machine
end

