-- ==== Sys2Proof/Machine/Debouncer.lean ====
section
/-!
DEFINITION. The debouncer (42_debouncer.md): the seven DEB operations, the whole function of R128 that
picks one per sample, and the operations as instructions.
-/

namespace Sys2Proof.Machine

/-- DEB_HOLD: no register is written (R121). -/
def debHold (s : State) : State :=
  s.setDeb s.deb false

/-- DEB_START: a candidate transition with one vote (R122). -/
def debStart (level : Bool) (ts : Tick) (s : State) : State :=
  s.setDeb { s.deb with candTs := ts, target := level, votes := 1, mode := .debouncing } false

/-- DEB_START_COMMIT: with a threshold of 1 the first differing sample commits (R127). -/
def debStartCommit (level : Bool) (ts : Tick) (s : State) : State :=
  s.setDeb
    { s.deb with
      candTs := ts, target := level, stable := level, ts := ts, votes := 0, mode := .notDebouncing }
    true

/-- DEB_UP (R123). -/
def debUp (s : State) : State :=
  s.setDeb { s.deb with votes := votesUp s.cfg.toTunables s.deb.votes } false

/-- DEB_COMMIT: the candidate becomes the stable state, with the candidate's time (R124). -/
def debCommit (s : State) : State :=
  s.setDeb
    { s.deb with stable := s.deb.target, ts := s.deb.candTs, votes := 0, mode := .notDebouncing } true

/-- DEB_DOWN (R125). -/
def debDown (s : State) : State :=
  s.setDeb { s.deb with votes := votesDown s.cfg.toTunables s.deb.votes } false

/-- DEB_ABORT: the candidate is dropped (R126). -/
def debAbort (s : State) : State :=
  s.setDeb { s.deb with votes := 0, mode := .notDebouncing } false

/-- The debouncer, one operation per sample: `DEB(deb, level, ts)` (R128). -/
def debounce (level : Bool) (ts : Tick) (s : State) : State :=
  match s.deb.mode with
  | .notDebouncing =>
    if level = s.deb.stable then debHold s
    else if s.cfg.debThresh ≥ 2 then debStart level ts s
    else debStartCommit level ts s
  | .debouncing =>
    if level = s.deb.target then
      if s.deb.votes + 1 ≥ s.cfg.debThresh then debCommit s else debUp s
    else
      if s.deb.votes ≤ 1 then debAbort s else debDown s

/-! ### The operations as instructions. The selector bits a pattern leaves open, and the operands a rule
calls ignored, have no effect. -/

/-- DEB_HOLD (R121). -/
def execDebHold (_r _z _level : Bool) (_ts : Tick) (s : State) : Host.Outcome State Fault Refusal :=
  .next (debHold s)

/-- DEB_START (R122). -/
def execDebStart (_z level : Bool) (ts : Tick) (s : State) : Host.Outcome State Fault Refusal :=
  .next (debStart level ts s)

/-- DEB_START_COMMIT (R127). -/
def execDebStartCommit (_z level : Bool) (ts : Tick) (s : State) :
    Host.Outcome State Fault Refusal :=
  .next (debStartCommit level ts s)

/-- DEB_DOWN (R125). -/
def execDebDown (_r _level : Bool) (_ts : Tick) (s : State) : Host.Outcome State Fault Refusal :=
  .next (debDown s)

/-- DEB_ABORT (R126). -/
def execDebAbort (_r _level : Bool) (_ts : Tick) (s : State) : Host.Outcome State Fault Refusal :=
  .next (debAbort s)

/-- DEB_UP (R123). -/
def execDebUp (_z _level : Bool) (_ts : Tick) (s : State) : Host.Outcome State Fault Refusal :=
  .next (debUp s)

/-- DEB_COMMIT (R124). -/
def execDebCommit (_z _level : Bool) (_ts : Tick) (s : State) : Host.Outcome State Fault Refusal :=
  .next (debCommit s)

end Sys2Proof.Machine
end

