-- ==== Sys2Proof/Machine/Emitter.lean ====
section
/-!
DEFINITION. The event emitter (45_event_emitter.md): the four EMIT operations, the choice of one by the
event, one run per event in the step's order (R200, R207), and the operations as instructions. None
writes a register.
-/

namespace Sys2Proof.Machine

/-- EMIT_AZ_A (R205). -/
def emitAzA (e : Event) (s : State) : State := s.emitPayload e

/-- EMIT_AZ_B (R205). -/
def emitAzB (e : Event) (s : State) : State := s.emitPayload e

/-- EMIT_EL_A (R205). -/
def emitElA (e : Event) (s : State) : State := s.emitPayload e

/-- EMIT_EL_B (R205). -/
def emitElB (e : Event) (s : State) : State := s.emitPayload e

/-- `EMIT(event)`: the operation of the event's axis and lighthouse (R79, R200). -/
def emit (e : Event) (s : State) : State :=
  match e.axis, e.lighthouse with
  | .az, .a => emitAzA e s
  | .az, .b => emitAzB e s
  | .el, .a => emitElA e s
  | .el, .b => emitElB e s

/-- `for e in events: payload(e) := EMIT(e)` (R92). -/
def emitAll (events : List Event) (s : State) : State :=
  events.foldl (fun s e => emit e s) s

/-- EMIT_AZ_A (R205). -/
def execEmitAzA (e : Event) (s : State) : Host.Outcome State Fault Refusal :=
  .next (emitAzA e s)

/-- EMIT_AZ_B (R205). -/
def execEmitAzB (e : Event) (s : State) : Host.Outcome State Fault Refusal :=
  .next (emitAzB e s)

/-- EMIT_EL_A (R205). -/
def execEmitElA (e : Event) (s : State) : Host.Outcome State Fault Refusal :=
  .next (emitElA e s)

/-- EMIT_EL_B (R205). -/
def execEmitElB (e : Event) (s : State) : Host.Outcome State Fault Refusal :=
  .next (emitElB e s)

end Sys2Proof.Machine
end

