-- ==== Sys2Proof/Machine/Router.lean ====
section
/-!
DEFINITION. The pulse-type router (43_pulse_assembler_router.md section 2): the seven RT operations, the
choice of one by the pulse type, and the operations as instructions. None writes a register; each puts
the two classes, or nothing, on the way to the axis FSMs (R145).
-/

namespace Sys2Proof.Machine

/-- RT_INVALID: route nothing (R146). -/
def rtInvalid (s : State) : State := s.setRoute none

/-- RT_LASER (R147). -/
def rtLaser (s : State) : State := s.setRoute (some (.laser, .laser))

/-- RT_AZ_SYNC (R148). -/
def rtAzSync (s : State) : State := s.setRoute (some (.sync, .other))

/-- RT_AZ_SKIP (R149). -/
def rtAzSkip (s : State) : State := s.setRoute (some (.skip, .other))

/-- RT_EL_SYNC (R150). -/
def rtElSync (s : State) : State := s.setRoute (some (.other, .sync))

/-- RT_EL_SKIP (R151). -/
def rtElSkip (s : State) : State := s.setRoute (some (.other, .skip))

/-- RT_RSVD: route nothing, as RT_INVALID (R152). -/
def rtRsvd (s : State) : State := s.setRoute none

/-- `ROUTE(type)`: exactly one RT operation for every pulse type code (R145). -/
def route (type : PulseType) (s : State) : State :=
  match type.toNat with
  | 0 => rtInvalid s
  | 1 => rtLaser s
  | 2 => rtAzSync s
  | 3 => rtAzSkip s
  | 4 => rtElSync s
  | 5 => rtElSkip s
  | _ => rtRsvd s

/-- RT_INVALID (R146). -/
def execRtInvalid (s : State) : Host.Outcome State Fault Refusal :=
  .next (rtInvalid s)

/-- RT_LASER (R147). -/
def execRtLaser (s : State) : Host.Outcome State Fault Refusal :=
  .next (rtLaser s)

/-- RT_AZ_SYNC (R148). -/
def execRtAzSync (s : State) : Host.Outcome State Fault Refusal :=
  .next (rtAzSync s)

/-- RT_AZ_SKIP (R149). -/
def execRtAzSkip (s : State) : Host.Outcome State Fault Refusal :=
  .next (rtAzSkip s)

/-- RT_EL_SYNC (R150). -/
def execRtElSync (s : State) : Host.Outcome State Fault Refusal :=
  .next (rtElSync s)

/-- RT_EL_SKIP (R151). -/
def execRtElSkip (s : State) : Host.Outcome State Fault Refusal :=
  .next (rtElSkip s)

/-- RT_RSVD (R152). -/
def execRtRsvd (_t : Bool) (s : State) : Host.Outcome State Fault Refusal :=
  .next (rtRsvd s)

end Sys2Proof.Machine
end

