-- ==== Sys2Proof/Machine/Transactions.lean ====
section
/-!
DEFINITION. The three input transactions (40_top_level_step.md, R240): what RESET writes, that IDLE
writes nothing, and SAMPLE as the chain of its sub-steps.
-/

namespace Sys2Proof.Machine

/-- RESET: the 17 registers at their reset values; the configuration is not affected (R240). -/
def resetRegisters (s : State) : State :=
  { s with deb := Deb.reset, pa := Pa.reset, az := AxisRegs.reset, el := AxisRegs.reset }

/-- Sub-step 3 of a SAMPLE: one RT operation on the pulse, and if it routes, one AX operation per
instance with the pulse's rise timestamp, azimuth first (R92, R93, R143). -/
def routePulse (type : PulseType) (rise : Tick) (s : State) : State :=
  let s' := route type s
  match s'.out.route with
  | some (classAz, classEl) => axisStep .el classEl rise (axisStep .az classAz rise s')
  | none => s'

/-- Sub-step 4 of a SAMPLE: one EMIT per event of the step, in their order (R92, R200). -/
def emitEvents (s : State) : State :=
  emitAll s.out.events s

/-- Sub-step 3 where there is a pulse; without one the axis registers keep their values (R92). -/
def deliver (p : Option Pulse) (s : State) : State :=
  match p with
  | some p => routePulse p.type p.rise s
  | none => s

/-- The chain of a SAMPLE: debouncer, pulse assembler with the classifier inside PA_FALL, router and
axis FSMs, emitter (R92, R93). -/
def sampleChain (level : Bool) (ts : Tick) (s : State) : State :=
  let s' := assemble (debounce level ts s)
  emitEvents (deliver s'.out.pulse s')

/-- RESET: `valid`, `level` and `ts` are ignored (R240). -/
def execReset (_v _l : Bool) (_t : Tick) (s : State) : Host.Outcome State Fault Refusal :=
  .next (resetRegisters s.beginStep)

/-- IDLE: no register is written, every strobe is 0 (R91). -/
def execIdle (_l : Bool) (_t : Tick) (s : State) : Host.Outcome State Fault Refusal :=
  .next s.beginStep

/-- SAMPLE (R92). -/
def execSample (level : Bool) (ts : Tick) (s : State) : Host.Outcome State Fault Refusal :=
  .next (sampleChain level ts s.beginStep)

end Sys2Proof.Machine
end

