-- ==== Sys2Proof/Machine/Dispatch.lean ====
section
/-!
DEFINITION. `exec`: one arm per constructor of `Instr`, each one direct call of its meaning.
-/

namespace Sys2Proof.Machine

def exec (i : Instr) (s : State) : Host.Outcome State Fault Refusal :=
  match i with
  | .reset v b t => Sys2Proof.Machine.execReset v b t s
  | .idle b t => Sys2Proof.Machine.execIdle b t s
  | .sample level ts => Sys2Proof.Machine.execSample level ts s
  | .debHold r z level ts => Sys2Proof.Machine.execDebHold r z level ts s
  | .debStart z level ts => Sys2Proof.Machine.execDebStart z level ts s
  | .debStartCommit z level ts => Sys2Proof.Machine.execDebStartCommit z level ts s
  | .debDown r level ts => Sys2Proof.Machine.execDebDown r level ts s
  | .debAbort r level ts => Sys2Proof.Machine.execDebAbort r level ts s
  | .debUp z level ts => Sys2Proof.Machine.execDebUp z level ts s
  | .debCommit z level ts => Sys2Proof.Machine.execDebCommit z level ts s
  | .paNone b => Sys2Proof.Machine.execPaNone b s
  | .paFall => Sys2Proof.Machine.execPaFall s
  | .paRise => Sys2Proof.Machine.execPaRise s
  | .clNone width => Sys2Proof.Machine.execClNone width s
  | .clLaser width => Sys2Proof.Machine.execClLaser width s
  | .clAzSyncD0 width => Sys2Proof.Machine.execClAzSyncD0 width s
  | .clAzSyncD1 width => Sys2Proof.Machine.execClAzSyncD1 width s
  | .clElSyncD0 width => Sys2Proof.Machine.execClElSyncD0 width s
  | .clElSyncD1 width => Sys2Proof.Machine.execClElSyncD1 width s
  | .clAzSkipD0 width => Sys2Proof.Machine.execClAzSkipD0 width s
  | .clAzSkipD1 width => Sys2Proof.Machine.execClAzSkipD1 width s
  | .clElSkipD0 width => Sys2Proof.Machine.execClElSkipD0 width s
  | .clElSkipD1 width => Sys2Proof.Machine.execClElSkipD1 width s
  | .rtInvalid => Sys2Proof.Machine.execRtInvalid s
  | .rtLaser => Sys2Proof.Machine.execRtLaser s
  | .rtAzSync => Sys2Proof.Machine.execRtAzSync s
  | .rtAzSkip => Sys2Proof.Machine.execRtAzSkip s
  | .rtElSync => Sys2Proof.Machine.execRtElSync s
  | .rtElSkip => Sys2Proof.Machine.execRtElSkip s
  | .rtRsvd t => Sys2Proof.Machine.execRtRsvd t s
  | .axIdleOther x ts => Sys2Proof.Machine.execAxIdleOther x ts s
  | .axIdleSync x ts => Sys2Proof.Machine.execAxIdleSync x ts s
  | .axIdleSkip x ts => Sys2Proof.Machine.execAxIdleSkip x ts s
  | .axIdleLaser x ts => Sys2Proof.Machine.execAxIdleLaser x ts s
  | .axWsaOther x ts => Sys2Proof.Machine.execAxWsaOther x ts s
  | .axWsaSync x ts => Sys2Proof.Machine.execAxWsaSync x ts s
  | .axWsaSkip x ts => Sys2Proof.Machine.execAxWsaSkip x ts s
  | .axWsaLaser x ts => Sys2Proof.Machine.execAxWsaLaser x ts s
  | .axSbsOther x ts => Sys2Proof.Machine.execAxSbsOther x ts s
  | .axSbsSync x ts => Sys2Proof.Machine.execAxSbsSync x ts s
  | .axSbsSkip x ts => Sys2Proof.Machine.execAxSbsSkip x ts s
  | .axSbsLaser x ts => Sys2Proof.Machine.execAxSbsLaser x ts s
  | .axElaOther x ts => Sys2Proof.Machine.execAxElaOther x ts s
  | .axElaSync x ts => Sys2Proof.Machine.execAxElaSync x ts s
  | .axElaSkip x ts => Sys2Proof.Machine.execAxElaSkip x ts s
  | .axElaLaser x ts => Sys2Proof.Machine.execAxElaLaser x ts s
  | .axElbOther x ts => Sys2Proof.Machine.execAxElbOther x ts s
  | .axElbSync x ts => Sys2Proof.Machine.execAxElbSync x ts s
  | .axElbSkip x ts => Sys2Proof.Machine.execAxElbSkip x ts s
  | .axElbLaser x ts => Sys2Proof.Machine.execAxElbLaser x ts s
  | .axRsvd5 c x ts => Sys2Proof.Machine.execAxRsvd5 c x ts s
  | .axRsvd67 b c x ts => Sys2Proof.Machine.execAxRsvd67 b c x ts s
  | .emitAzA e => Sys2Proof.Machine.execEmitAzA e s
  | .emitAzB e => Sys2Proof.Machine.execEmitAzB e s
  | .emitElA e => Sys2Proof.Machine.execEmitElA e s
  | .emitElB e => Sys2Proof.Machine.execEmitElB e s

end Sys2Proof.Machine
end

