-- ==== Sys2Proof/Machine/Step.lean ====
section
/-!
DEFINITION. One step of the machine: take the word on the port, decode it, run it. And how a word of the
opcode table is presented.
-/

namespace Sys2Proof.Machine

/-- One step (R16): the word on the port is taken, the step's outputs start quiet, and the operation the
word decodes to runs. A word that is no operation is refused by name. -/
def step (s : State) : Host.Outcome State Fault Refusal :=
  match decode s.fetch with
  | .ok i => exec i s.advance
  | .error why => .refused (.noOperation why)

/-- `s` with a word of the opcode table presented next (log entries 1 and 9). -/
def State.withFetchWord (s : State) (nbits w : Nat) : State :=
  { s with input := PortWord.ofTable nbits w :: s.input }

end Sys2Proof.Machine
end

