-- ==== Sys2Proof/Machine/Selectors.lean ====
section
/-!
DEFINITION. A SAMPLE told the way 30_encoding.md R65 tells it: each sub-step computes its family's
selector word, the decoder reads the word as an operation, and that operation runs as an instruction.
The machine runs `sampleChain`; that the two agree is a statement of its own.
-/

namespace Sys2Proof.Machine

/-- Run what a word decodes to. -/
def runWord (w : PortWord) (s : State) : Host.Outcome State Fault Refusal :=
  match decode w with
  | .ok i => exec i s
  | .error why => .refused (.noOperation why)

/-- Go on from a next state; a fault or a refusal stands. -/
def andThen (o : Host.Outcome State Fault Refusal)
    (f : State → Host.Outcome State Fault Refusal) : Host.Outcome State Fault Refusal :=
  match o with
  | .next s => f s
  | .fault r => .fault r
  | .refused r => .refused r

/-- One EMIT per event, by the EM selector (R79). -/
def emitBySelectors : List Event → State → Host.Outcome State Fault Refusal
  | [], s => .next s
  | e :: es, s =>
    andThen (runWord (.em (emSelector e) e.sync e.laser) s) (emitBySelectors es)

/-- One AX operation per instance, azimuth first, by the AX selector (R78). -/
def axesBySelectors (classAz classEl : PulseClass) (rise : Tick) (s : State) :
    Host.Outcome State Fault Refusal :=
  andThen (runWord (.ax (axSelector s.az.state classAz) .az rise) s) fun s =>
    runWord (.ax (axSelector s.el.state classEl) .el rise) s

/-- One RT operation by the RT selector, and the axis FSMs if it routes (R65, R77). -/
def pulseBySelectors (p : Pulse) (s : State) : Host.Outcome State Fault Refusal :=
  andThen (runWord (.rt (rtSelector p.type)) s) fun s =>
    match s.out.route with
    | some (classAz, classEl) => axesBySelectors classAz classEl p.rise s
    | none => .next s

/-- The micro-operations of a SAMPLE, each chosen by its family's selector word (R65, R74 to R79). -/
def sampleBySelectors (level : Bool) (ts : Tick) (s : State) : Host.Outcome State Fault Refusal :=
  andThen (runWord (.deb (debSelector s level) level ts) s) fun s =>
    andThen (runWord (.pa (paSelector s)) s) fun s =>
      andThen
        (match s.out.pulse with
        | some p => pulseBySelectors p s
        | none => .next s)
        fun s => emitBySelectors s.out.events s

/-- PA_FALL's CL operation, chosen by the CL selector, and the Pulse record of its result (R76, R142). -/
def fallBySelectors (s : State) : Host.Outcome State Fault Refusal :=
  let rise := s.pa.riseTs
  let width := pulseWidth rise s.deb.ts
  andThen (runWord (.cl (clSelector s.cfg.toTunables width) width) s) fun s' =>
    .next (s'.setPulse (s'.out.pulseType.map fun type => ⟨rise, width, type⟩))

end Sys2Proof.Machine
end

