-- ==== Sys2Proof/Machine/Stimulus.lean ====
section
/-!
DEFINITION. The stimulus notation of 30_encoding.md section 6: the IN words of RESET, IDLE and
`S <level> @<ts>`, the expansions of EDGE and PULSE, and `P <TYPE> @<ts>`, a pulse presented directly to
the router (R83, R84).
-/

namespace Sys2Proof.Machine

/-- `RESET`: IN word `0x4_00000000` (R83). -/
def stimReset : PortWord :=
  .inp (inWord true false false 0)

/-- `IDLE`: IN word `0x0_00000000` (R83). -/
def stimIdle : PortWord :=
  idleWord

/-- `S <level> @<ts>`: IN word `{0b01, level, ts}` (R83). -/
def stimSample (level : Bool) (ts : Tick) : PortWord :=
  .inp (inWord false true level ts)

/-- `n` samples of one level at `ts`, `ts + 1`, and so on, modulo `2^32` (R84). -/
def stimRun (level : Bool) (ts : Tick) : Nat → List PortWord
  | 0 => []
  | n + 1 => stimSample level ts :: stimRun level (ts + 1) n

/-- `EDGE <level> @<ts>`: `cfg.DEB_THRESH` samples (R84). -/
def stimEdge (t : Tunables) (level : Bool) (ts : Tick) : List PortWord :=
  stimRun level ts t.debThresh

/-- `PULSE @<rise> +<width>` (R84). -/
def stimPulse (t : Tunables) (rise width : Tick) : List PortWord :=
  stimEdge t true rise ++ stimEdge t false (rise + width)

/-- `P <TYPE> @<ts>`: the step of a Pulse record presented directly to the router. Not an input
transaction (R84). -/
def presentPulse (type : PulseType) (ts : Tick) (s : State) : State :=
  emitEvents (routePulse type ts s.beginStep)

/-- The pulse type an axis sees as Sync (R145). -/
def syncType : Axis → PulseType
  | .az => PulseType.azSync
  | .el => PulseType.elSync

/-- The pulse type an axis sees as SyncSkip (R145). -/
def skipType : Axis → PulseType
  | .az => PulseType.azSkip
  | .el => PulseType.elSkip

end Sys2Proof.Machine
end

