-- ==== Sys2Proof/Safety.lean ====
section
/-!
DEFINITION. The terms in which statements speak of runs: what the environment may present, the legal
states of R42, and states that agree but for one part.
-/

namespace Sys2Proof.Machine

/-- An input transaction, the only kind of word the environment presents (R16, R66). -/
def PortWord.isTransaction : PortWord → Bool
  | .inp _ => true
  | .deb _ _ _ => false
  | .pa _ => false
  | .cl _ _ => false
  | .rt _ => false
  | .ax _ _ _ => false
  | .em _ _ _ => false
  | .unformatted _ _ => false

/-- Every word still to be presented is an input transaction. -/
def OnlyTransactions (s : State) : Prop :=
  ∀ w ∈ s.input, PortWord.isTransaction w = true

/-- The invariants of R42, clauses (a) to (e), one field each. -/
structure Legal (s : State) : Prop where
  votes_le : s.deb.votes ≤ s.cfg.debThresh
  votes_debouncing :
    s.deb.mode = .debouncing → 1 ≤ s.deb.votes ∧ s.deb.votes < s.cfg.debThresh
  target_ne : s.deb.mode = .debouncing → s.deb.target ≠ s.deb.stable
  votes_dead : s.deb.mode = .notDebouncing → s.deb.votes = 0
  axis_state : s.az.state.toNat ≤ 4 ∧ s.el.state.toNat ≤ 4
  one_active : s.az.state = AxisState.idle ∨ s.el.state = AxisState.idle

/-- The vote counter fits its register of `VW` bits (R20). -/
def VotesFit (s : State) : Prop :=
  s.deb.votes < 2 ^ voteWidth s.cfg.toTunables

/-- `s` with the environment's words replaced by `ws`. -/
def State.presenting (s : State) (ws : List PortWord) : State :=
  { s with input := ws }

/-- The configuration with `DEBUG_STATE` set to `b`. -/
def WfCfg.setDebug (c : WfCfg) (b : Bool) : WfCfg :=
  { c with debugState := b, wf := c.wf }

/-- `s` under the configuration with `DEBUG_STATE` set to `b`. -/
def State.setDebug (s : State) (b : Bool) : State :=
  { s with cfg := WfCfg.setDebug s.cfg b }

/-- A map over the next state of an outcome. -/
def mapNext (f : State → State) :
    Host.Outcome State Fault Refusal → Host.Outcome State Fault Refusal
  | .next s => .next (f s)
  | .fault r => .fault r
  | .refused r => .refused r

/-- The debouncer's registers with every timestamp moved by `d` ticks. -/
def Deb.shift (r : Deb) (d : Tick) : Deb :=
  { r with ts := r.ts + d, candTs := r.candTs + d }

/-- An axis instance's registers with every timestamp moved by `d` ticks; the deltas stay. -/
def AxisRegs.shift (r : AxisRegs) (d : Tick) : AxisRegs :=
  { r with pendA := r.pendA + d, pendB := r.pendB + d }

/-- Every timestamp register moved by `d` ticks, modulo `2^32`. -/
def State.shift (s : State) (d : Tick) : State :=
  { s with
    deb := Deb.shift s.deb d
    pa := { riseTs := s.pa.riseTs + d }
    az := AxisRegs.shift s.az d
    el := AxisRegs.shift s.el d }

/-- The 17 registers agree (R20). -/
def SameRegisters (s t : State) : Prop :=
  s.deb = t.deb ∧ s.pa = t.pa ∧ s.az = t.az ∧ s.el = t.el

end Sys2Proof.Machine
end

