-- ==== Sys2Proof/Certificates/Slice0/Obligations.lean ====
section
/-!
DEFINITION. The statements for the provers. Each is about the machine, for every state, every operand
and every well-formed configuration; OBLIGATIONS.json says of each which rule it formalises.
-/

open Sys2Proof Sys2Proof.Machine

/-! ### Encoding -/

/-- Decoding an encoded well-formed instruction gives it back, for all 56 constructors. -/
def Obligations.DecodeOfEncode : Prop :=
  ∀ i : Instr, i.WellFormed = true → decode (encode i) = .ok i

/-- A word that decodes is the encoding of what it decodes to, and that is well formed: no bit of a word
is dropped. -/
def Obligations.EncodeOfDecode : Prop :=
  ∀ (w : PortWord) (i : Instr), decode w = .ok i → encode i = w ∧ i.WellFormed = true

/-- Every IN word is one of the three transactions, `rst` first, then `valid` (R66). -/
def Obligations.InWordDecodesByRstThenValid : Prop :=
  ∀ (rst valid level : Bool) (ts : Tick),
    decode (.inp (inWord rst valid level ts)) =
        .ok
          (if rst then .reset valid level ts
          else if valid then .sample level ts
          else .idle level ts) ∧
      ∀ w : BitVec 35, ∃ r v l t, w = inWord r v l t

/-- The decoder rejects bits of no format and CL selectors 10 to 15, and no other word. The model's
choice, log entry 10: of those selectors the spec says only that they have no row and never arise
(R76, R81). -/
def Obligations.OnlyReservedWordsAreRejected : Prop :=
  ∀ w : PortWord,
    (∃ e, decode w = .error e) ↔
      (∃ n v, w = .unformatted n v) ∨ ∃ sel width, w = .cl sel width ∧ 10 ≤ sel.toNat

/-- A few words written out from the encoding tables, one for each format. -/
def Obligations.WordsOfTheTablesDecode : Prop :=
  (∀ level ts,
      decode (.inp 0x700000065) = .ok (.reset true true 101) ∧
      decode (.inp 0x112345678) = .ok (.idle true 0x12345678) ∧
      decode (.inp 0x200000672) = .ok (.sample false 1650) ∧
      decode (.deb 0b1010 level ts) = .ok (.debDown true level ts) ∧
      decode (.deb 0b0111 level ts) = .ok (.debStartCommit true level ts)) ∧
    decode (.pa 0b10) = .ok .paFall ∧
    (∀ width, decode (.cl 0b0110 width) = .ok (.clAzSkipD0 width)) ∧
    decode (.rt 0b101) = .ok .rtElSkip ∧
    (∀ x ts,
      decode (.ax 0b01111 x ts) = .ok (.axElaLaser x ts) ∧
      decode (.ax 0b11110 x ts) = .ok (.axRsvd67 true 0b10 x ts)) ∧
    ∀ a b, decode (.em 0b01 a b) = .ok (.emitAzB ⟨.az, .b, a, b⟩)

/-! ### The step -/

/-- A step takes the word on the port, starts with quiet outputs, and runs what the word decodes to. -/
def Obligations.StepRunsDecodedInstruction : Prop :=
  ∀ (s : State) (w : PortWord) (rest : List PortWord) (i : Instr),
    s.input = w :: rest → decode w = .ok i →
      step s = exec i { s with input := rest, out := Outputs.quiet }

/-- With nothing presented a step is IDLE. The model's choice, log entry 2. -/
def Obligations.StepWithNothingPresentedIsIdle : Prop :=
  ∀ s : State, s.input = [] → step s = .next { s with out := Outputs.quiet }

/-- A word that is no operation is refused by name. The model's choice, log entry 10. -/
def Obligations.StepRefusesReservedWords : Prop :=
  ∀ (s : State) (w : PortWord) (rest : List PortWord) (e : DecodeError),
    s.input = w :: rest → decode w = .error e → step s = .refused (.noOperation e)

/-- No transaction stops the machine (R210). -/
def Obligations.TransactionsNeverStop : Prop :=
  ∀ s : State, OnlyTransactions s →
    ∃ t, step s = .next t ∧ t.input = s.input.tail ∧ OnlyTransactions t

/-- No operation, presented alone or in a transaction, stops the machine, changes the configuration, or
presents a word. -/
def Obligations.OperationsCompleteAndKeepConfiguration : Prop :=
  ∀ (i : Instr) (s : State), ∃ t, exec i s = .next t ∧ t.cfg = s.cfg ∧ t.input = s.input

/-! ### Reset and IDLE -/

/-- The reset state holds the reset values of R41. -/
def Obligations.ResetStateIsAllZero : Prop :=
  State.reset.deb = ⟨.notDebouncing, false, 0, false, 0, 0⟩ ∧
    State.reset.pa = ⟨0⟩ ∧
    State.reset.az = ⟨0, 0, 0, 0, 0⟩ ∧
    State.reset.el = ⟨0, 0, 0, 0, 0⟩ ∧
    State.reset.out = Outputs.quiet ∧
    State.reset.cfg.devThresh = 4630 ∧
    State.reset.cfg.debugState = false ∧
    State.reset.cfg.firstDeltaAccept = true

/-- RESET, from any state: every register 0, nothing asserted, the rest kept; and every IN word with
`rst = 1` is RESET whatever its other fields hold (R240). -/
def Obligations.ResetWritesEveryRegister : Prop :=
  ∀ (v l : Bool) (t : Tick) (s : State),
    exec (.reset v l t) s =
        .next
          { s with
            deb := ⟨.notDebouncing, false, 0, false, 0, 0⟩
            pa := ⟨0⟩
            az := ⟨0, 0, 0, 0, 0⟩
            el := ⟨0, 0, 0, 0, 0⟩
            out := Outputs.quiet } ∧
      decode (.inp (inWord true v l t)) = .ok (.reset v l t) ∧
      ∀ rest, s.input = .inp (inWord true v l t) :: rest →
        ∃ u, step s = .next u ∧ SameRegisters u State.reset ∧ u.cfg = s.cfg ∧ u.input = rest ∧
          u.out = Outputs.quiet

/-- IDLE writes no register and asserts no strobe, whatever the ignored fields hold (R91). -/
def Obligations.IdleWritesNoRegister : Prop :=
  ∀ (l : Bool) (t : Tick) (s : State),
    exec (.idle l t) s = .next { s with out := Outputs.quiet } ∧
      decode (.inp (inWord false false l t)) = .ok (.idle l t)

/-! ### Invariants -/

/-- The reset state is legal, and presents nothing. The legal states are those of R42, which the
spec marks as its own inference. -/
def Obligations.ResetStateIsLegal : Prop :=
  Legal State.reset ∧ OnlyTransactions State.reset ∧ VotesFit State.reset

/-- Every step on an input transaction keeps the invariants of R42, from any state that has them. The spec
marks R42 as its own inference, "by induction over steps", from the rules of the debouncer and the axis
FSMs. -/
def Obligations.StepKeepsLegal : Prop :=
  ∀ s t : State, Legal s → OnlyTransactions s → step s = .next t → Legal t ∧ OnlyTransactions t

/-- Every operation keeps the vote counter within its `VW` bits. -/
def Obligations.OperationsKeepVotesFit : Prop :=
  ∀ (i : Instr) (s t : State), VotesFit s → exec i s = .next t → VotesFit t

/-- `VW = max(1, ceil(log2(DEB_THRESH + 1)))`, and it is the smallest width of at least 1 that holds
`DEB_THRESH` (R20). -/
def Obligations.VoteWidthIsSmallest : Prop :=
  ∀ t : Tunables,
    voteWidth t = max 1 (Nat.clog 2 (t.debThresh + 1)) ∧
      t.debThresh < 2 ^ voteWidth t ∧
      ∀ w, 1 ≤ w → t.debThresh < 2 ^ w → voteWidth t ≤ w

/-! ### The debouncer -/

/-- The seven DEB operations as instructions, R121 to R127: the selector words of each, and what each
writes, for every value of the operands and of the selector bits its pattern leaves open. -/
def Obligations.DebOperationsComplete : Prop :=
  ∀ (r z level : Bool) (ts : Tick) (s : State),
    (decode (.deb (debWord false false r z) level ts) = .ok (.debHold r z level ts) ∧
      decode (.deb (debWord false true false z) level ts) = .ok (.debStart z level ts) ∧
      decode (.deb (debWord false true true z) level ts) = .ok (.debStartCommit z level ts) ∧
      decode (.deb (debWord true true false z) level ts) = .ok (.debUp z level ts) ∧
      decode (.deb (debWord true true true z) level ts) = .ok (.debCommit z level ts) ∧
      decode (.deb (debWord true false r false) level ts) = .ok (.debDown r level ts) ∧
      decode (.deb (debWord true false r true) level ts) = .ok (.debAbort r level ts)) ∧
    exec (.debHold r z level ts) s =
        .next { s with out := { s.out with debCommit := false } } ∧
      exec (.debStart z level ts) s =
        .next
          { s with
            deb :=
              { s.deb with candTs := ts, target := level, votes := 1, mode := .debouncing }
            out := { s.out with debCommit := false } } ∧
      exec (.debStartCommit z level ts) s =
        .next
          { s with
            deb := ⟨.notDebouncing, level, ts, level, ts, 0⟩
            out := { s.out with debCommit := true } } ∧
      (s.deb.votes + 1 < s.cfg.debThresh →
        exec (.debUp z level ts) s =
          .next
            { s with
              deb := { s.deb with votes := s.deb.votes + 1 }
              out := { s.out with debCommit := false } }) ∧
      exec (.debCommit z level ts) s =
        .next
          { s with
            deb :=
              { s.deb with
                stable := s.deb.target
                ts := s.deb.candTs
                votes := 0
                mode := .notDebouncing }
            out := { s.out with debCommit := true } } ∧
      (2 ≤ s.deb.votes →
        exec (.debDown r level ts) s =
          .next
            { s with
              deb := { s.deb with votes := s.deb.votes - 1 }
              out := { s.out with debCommit := false } }) ∧
      exec (.debAbort r level ts) s =
        .next
          { s with
            deb := { s.deb with votes := 0, mode := .notDebouncing }
            out := { s.out with debCommit := false } }

/-- The DEB selector chooses the operation the whole function of R128 runs, in every state. -/
def Obligations.DebSelectorChoosesOperation : Prop :=
  ∀ (s : State) (level : Bool) (ts : Tick),
    runWord (.deb (debSelector s level) level ts) s = .next (debounce level ts s)

/-- A SAMPLE while Not-Debouncing that commits nothing: a sample of the stable level changes no
register; a differing one starts a debounce, for a threshold of 2 or more (R121, R122). -/
def Obligations.SampleHoldsOrStarts : Prop :=
  ∀ (s : State) (level : Bool) (ts : Tick), s.deb.mode = .notDebouncing →
    (level = s.deb.stable →
      exec (.sample level ts) s = .next { s with out := Outputs.quiet }) ∧
    (level ≠ s.deb.stable → 2 ≤ s.cfg.debThresh →
      exec (.sample level ts) s =
        .next
          { s with
            deb := { s.deb with candTs := ts, target := level, votes := 1, mode := .debouncing }
            out := Outputs.quiet })

/-- A SAMPLE while Debouncing that commits nothing: one more vote below the threshold, one fewer vote,
or an abort (R123, R125, R126). -/
def Obligations.SampleMovesVotesOrAborts : Prop :=
  ∀ (s : State) (level : Bool) (ts : Tick), s.deb.mode = .debouncing →
    (level = s.deb.target → s.deb.votes + 1 < s.cfg.debThresh →
      exec (.sample level ts) s =
        .next
          { s with
            deb := { s.deb with votes := s.deb.votes + 1 }
            out := Outputs.quiet }) ∧
    (level ≠ s.deb.target → 2 ≤ s.deb.votes →
      exec (.sample level ts) s =
        .next
          { s with
            deb := { s.deb with votes := s.deb.votes - 1 }
            out := Outputs.quiet }) ∧
    (level ≠ s.deb.target → s.deb.votes ≤ 1 →
      exec (.sample level ts) s =
        .next
          { s with
            deb := { s.deb with votes := 0, mode := .notDebouncing }
            out := Outputs.quiet })

/-- A glitch of one sample leaves the stable state, its timestamp and the mode as they were. The spec has
this as R129 (a), marked as its own inference from R122 and R126. -/
def Obligations.GlitchIsRejected : Prop :=
  ∀ (s : State) (level : Bool) (t1 t2 : Tick) (rest : List PortWord),
    s.deb.mode = .notDebouncing → level ≠ s.deb.stable → 2 ≤ s.cfg.debThresh →
    s.input = stimSample level t1 :: stimSample s.deb.stable t2 :: rest →
      ∃ u, core.run 2 s = .next u ∧ u.deb.stable = s.deb.stable ∧ u.deb.ts = s.deb.ts ∧
        u.deb.mode = .notDebouncing ∧ u.pa = s.pa ∧ u.az = s.az ∧ u.el = s.el ∧
        u.input = rest ∧ u.out = Outputs.quiet

/-- `DEB_THRESH` consecutive samples of the other level commit exactly one transition, in the last of
them, with the first one's timestamp; before it nothing but the candidate changes. The spec has this as
R129 (b), marked as its own inference from R122, R123, R124 and R127. -/
def Obligations.ThresholdSamplesCommitOnce : Prop :=
  ∀ (s : State) (level : Bool) (t1 : Tick) (ts : List Tick),
    s.deb.mode = .notDebouncing → level ≠ s.deb.stable →
    ts.length + 1 = s.cfg.debThresh →
    s.input = (t1 :: ts).map (stimSample level) →
      (∀ k, 1 ≤ k → k < s.cfg.debThresh →
        ∃ u, core.run k s = .next u ∧ u.out.debCommit = false ∧
          u.deb.stable = s.deb.stable ∧ u.deb.ts = s.deb.ts ∧ u.pa = s.pa ∧ u.az = s.az ∧
          u.el = s.el) ∧
      ∃ u, core.run s.cfg.debThresh s = .next u ∧ u.out.debCommit = true ∧
        u.deb.stable = level ∧ u.deb.ts = t1 ∧ u.deb.mode = .notDebouncing ∧ u.input = []

/-- A candidate with `v` votes survives `v - 1` contrary samples and the next one aborts it, with
nothing committed (R125, R126). -/
def Obligations.HysteresisSurvivesVotesMinusOne : Prop :=
  ∀ (s : State) (ts : List Tick),
    s.deb.mode = .debouncing → 1 ≤ s.deb.votes → ts.length = s.deb.votes →
    s.input = ts.map (stimSample !s.deb.target) →
      (∀ k, k < s.deb.votes →
        ∃ u, core.run k s = .next u ∧ u.deb = { s.deb with votes := s.deb.votes - k }) ∧
      ∃ u, core.run s.deb.votes s = .next u ∧
        u.deb = { s.deb with votes := 0, mode := .notDebouncing } ∧ u.pa = s.pa ∧ u.az = s.az ∧
        u.el = s.el

/-- An alternating input holds a debounce between two vote counts for any length of time: there is no
bound on how long it may last. The spec has this in R130, marked as its own inference from R123 to
R126. -/
def Obligations.AlternatingSamplesNeverCommit : Prop :=
  ∀ (n : Nat) (s : State) (ts : List (Tick × Tick)),
    s.deb.mode = .debouncing → 1 ≤ s.deb.votes → s.deb.votes + 1 < s.cfg.debThresh →
    ts.length = n →
    s.input =
      ts.flatMap (fun p => [stimSample s.deb.target p.1, stimSample (!s.deb.target) p.2]) →
      ∃ u, core.run (2 * n) s = .next u ∧ SameRegisters u s

/-- From a legal state, a step's commit strobe and a change of the stable level are the same thing
(R140, which refers to R129 (c), an inference of the spec from R124, R127 and the legal states). -/
def Obligations.CommitFlipsStable : Prop :=
  ∀ (s t : State) (level : Bool) (ts : Tick), Legal s → exec (.sample level ts) s = .next t →
    (t.out.debCommit = true ↔ t.deb.stable = !s.deb.stable)

/-! ### The pulse assembler -/

/-- PA_NONE, PA_RISE and PA_FALL as instructions, R140 to R142, with their selector words. PA_FALL
writes no register; its pulse has the width and the type of the interval from `pa.rise_ts` to
`deb.ts`. -/
def Obligations.PaOperationsComplete : Prop :=
  ∀ (b : Bool) (s : State),
    decode (.pa (pairWord false b)) = .ok (.paNone b) ∧
      decode (.pa 0b11) = .ok .paRise ∧
      decode (.pa 0b10) = .ok .paFall ∧
      exec (.paNone b) s = .next { s with out := { s.out with pulse := none } } ∧
      exec .paRise s =
        .next { s with pa := ⟨s.deb.ts⟩, out := { s.out with pulse := none } } ∧
      ∃ cs, exec .paFall s =
        .next
          { s with
            out :=
              { s.out with
                pulseType := some (classify s.cfg.toTunables s.pa.riseTs s.deb.ts)
                pulse :=
                  some
                    ⟨s.pa.riseTs, s.deb.ts - s.pa.riseTs,
                      classify s.cfg.toTunables s.pa.riseTs s.deb.ts⟩
                conditions := s.out.conditions ++ cs } } ∧
        cs =
          if classify s.cfg.toTunables s.pa.riseTs s.deb.ts = PulseType.invalid then
            [.unclassifiablePulse (s.deb.ts - s.pa.riseTs)]
          else []

/-- PA_FALL's classification is the CL operation its CL selector chooses (R76, R142). -/
def Obligations.FallRunsSelectedClassifier : Prop :=
  ∀ s : State, fallBySelectors s = exec .paFall s

/-- A SAMPLE that commits a rise latches it in `pa.rise_ts` and changes nothing else but the debouncer's
registers (R92, R124, R141). -/
def Obligations.SampleCommitsRise : Prop :=
  ∀ (s : State) (level : Bool) (ts : Tick), s.deb.mode = .debouncing → level = s.deb.target →
    s.cfg.debThresh ≤ s.deb.votes + 1 → s.deb.target = true →
      exec (.sample level ts) s =
        .next
          { s with
            deb :=
              { s.deb with
                stable := true
                ts := s.deb.candTs
                votes := 0
                mode := .notDebouncing }
            pa := ⟨s.deb.candTs⟩
            out := { Outputs.quiet with debCommit := true } }

/-- A threshold of 1 commits the first differing sample, with its own timestamp; of a rise the whole
state is given (R127). -/
def Obligations.ThresholdOneCommitsAtOnce : Prop :=
  ∀ (s : State) (level : Bool) (ts : Tick), s.deb.mode = .notDebouncing → level ≠ s.deb.stable →
    s.cfg.debThresh = 1 →
      ∃ t, exec (.sample level ts) s = .next t ∧
        t.deb = ⟨.notDebouncing, level, ts, level, ts, 0⟩ ∧ t.out.debCommit = true ∧
        (level = true →
          t = { s with
                deb := ⟨.notDebouncing, true, ts, true, ts, 0⟩
                pa := ⟨ts⟩
                out := { Outputs.quiet with debCommit := true } })

/-- A SAMPLE that commits a fall puts out the pulse: it rose at `pa.rise_ts`, its width is the modular
difference to the fall's time, its type the classifier's (R142). -/
def Obligations.SampleFallPutsOutPulse : Prop :=
  ∀ (s : State) (level : Bool) (ts : Tick), s.deb.mode = .debouncing → level = s.deb.target →
    s.cfg.debThresh ≤ s.deb.votes + 1 → s.deb.target = false →
      ∃ t, exec (.sample level ts) s = .next t ∧ t.pa = s.pa ∧
        t.deb = ⟨.notDebouncing, false, s.deb.candTs, false, s.deb.candTs, 0⟩ ∧
        t.out.debCommit = true ∧
        t.out.pulse =
          some
            ⟨s.pa.riseTs, s.deb.candTs - s.pa.riseTs,
              classify s.cfg.toTunables s.pa.riseTs s.deb.candTs⟩ ∧
        t.out.pulseType = some (classify s.cfg.toTunables s.pa.riseTs s.deb.candTs)

/-- A fall whose width is in no bin: UnclassifiablePulse is signalled, nothing is routed, and all ten
axis registers keep their values (R112, R144). -/
def Obligations.InvalidPulseReachesNoAxis : Prop :=
  ∀ (s t : State) (level : Bool) (ts : Tick) (p : Pulse),
    exec (.sample level ts) s = .next t → t.out.pulse = some p → p.type = PulseType.invalid →
      t.az = s.az ∧ t.el = s.el ∧ t.out.route = none ∧ t.out.events = [] ∧
        t.out.conditions = [.unclassifiablePulse p.width]

/-- Only a SAMPLE that commits a fall changes an axis register or emits (R92). -/
def Obligations.OnlyFallsReachTheAxes : Prop :=
  ∀ (s t : State) (level : Bool) (ts : Tick), exec (.sample level ts) s = .next t →
    (t.out.debCommit = false →
      t.pa = s.pa ∧ t.az = s.az ∧ t.el = s.el ∧ t.out = Outputs.quiet) ∧
    (t.out.debCommit = true → t.deb.stable = true →
      t.pa = ⟨t.deb.ts⟩ ∧ t.az = s.az ∧ t.el = s.el ∧
        t.out = { Outputs.quiet with debCommit := true }) ∧
    (t.out.debCommit = true → t.deb.stable = false → t.pa = s.pa)

/-! ### The classifier -/

/-- The ten CL operations as instructions, with their selector words: each sets the pulse type of its
row, and CL_NONE signals (R103 to R112). -/
def Obligations.ClOperationsComplete : Prop :=
  ∀ (width : Tick) (s : State),
    (decode (.cl 0b0000 width) = .ok (.clNone width) ∧
      decode (.cl 0b0001 width) = .ok (.clLaser width) ∧
      decode (.cl 0b0010 width) = .ok (.clAzSyncD0 width) ∧
      decode (.cl 0b0011 width) = .ok (.clAzSyncD1 width) ∧
      decode (.cl 0b0100 width) = .ok (.clElSyncD0 width) ∧
      decode (.cl 0b0101 width) = .ok (.clElSyncD1 width) ∧
      decode (.cl 0b0110 width) = .ok (.clAzSkipD0 width) ∧
      decode (.cl 0b0111 width) = .ok (.clAzSkipD1 width) ∧
      decode (.cl 0b1000 width) = .ok (.clElSkipD0 width) ∧
      decode (.cl 0b1001 width) = .ok (.clElSkipD1 width)) ∧
      exec (.clNone width) s =
        .next
          { s with
            out :=
              { s.out with
                pulseType := some 0
                conditions := s.out.conditions ++ [.unclassifiablePulse width] } } ∧
      exec (.clLaser width) s = .next { s with out := { s.out with pulseType := some 1 } } ∧
      exec (.clAzSyncD0 width) s = .next { s with out := { s.out with pulseType := some 2 } } ∧
      exec (.clAzSyncD1 width) s = .next { s with out := { s.out with pulseType := some 2 } } ∧
      exec (.clElSyncD0 width) s = .next { s with out := { s.out with pulseType := some 4 } } ∧
      exec (.clElSyncD1 width) s = .next { s with out := { s.out with pulseType := some 4 } } ∧
      exec (.clAzSkipD0 width) s = .next { s with out := { s.out with pulseType := some 3 } } ∧
      exec (.clAzSkipD1 width) s = .next { s with out := { s.out with pulseType := some 3 } } ∧
      exec (.clElSkipD0 width) s = .next { s with out := { s.out with pulseType := some 5 } } ∧
      exec (.clElSkipD1 width) s = .next { s with out := { s.out with pulseType := some 5 } }

/-- No width lies in two bins of a well-formed configuration, so the bin index is a function of the
width, and a configuration in which one does is refused (R114). -/
def Obligations.BinsAreDisjoint : Prop :=
  (∀ (c : WfCfg) (width : Tick) (j k : Nat) (b d : Bin),
    c.bin j = some b → c.bin k = some d →
    inBin b c.widthBias width = true → inBin d c.widthBias width = true →
      j = k ∧ binIndex c.toTunables width = j) ∧
    ∀ (c : Cfg) (width : Tick) (j k : Nat) (b d : Bin),
      c.bin j = some b → c.bin k = some d → j ≠ k →
      inBin b c.widthBias width = true → inBin d c.widthBias width = true →
        Cfg.checked c = none

/-- The bin index of a width is the number of the bin that contains it, and 0 if there is none (R76);
the bin test is the integer comparison of R102. -/
def Obligations.BinIndexIsTheContainingBin : Prop :=
  ∀ (c : WfCfg) (width : Tick),
    (∀ k b, c.bin k = some b →
      (binIndex c.toTunables width = k ↔
        b.lo + c.widthBias ≤ (width.toNat : Int) ∧ (width.toNat : Int) < b.hi + c.widthBias)) ∧
    (binIndex c.toTunables width = 0 ↔
      ∀ k b, c.bin k = some b →
        ¬(b.lo + c.widthBias ≤ (width.toNat : Int) ∧
          (width.toNat : Int) < b.hi + c.widthBias))

/-- `classify` depends on the two timestamps through the width only, across a wrap too. The sentence of
R100 that says so is marked as the spec's inference from R101 and R102. -/
def Obligations.ClassifyDependsOnWidthOnly : Prop :=
  ∀ (t : Tunables) (rise fall rise' fall' : Tick),
    (fall.toNat + 2 ^ 32 - rise.toNat) % 2 ^ 32 =
      (fall'.toNat + 2 ^ 32 - rise'.toNat) % 2 ^ 32 →
      classify t rise fall = classify t rise' fall' ∧
        (pulseWidth rise fall).toNat = (fall.toNat + 2 ^ 32 - rise.toNat) % 2 ^ 32

/-! ### The router -/

/-- The seven RT operations as instructions, with their selector words: the classes each gives `az` and
`el` (R146 to R152). -/
def Obligations.RtOperationsComplete : Prop :=
  ∀ (t : Bool) (s : State),
    (decode (.rt 0b000) = .ok .rtInvalid ∧
      decode (.rt 0b001) = .ok .rtLaser ∧
      decode (.rt 0b010) = .ok .rtAzSync ∧
      decode (.rt 0b011) = .ok .rtAzSkip ∧
      decode (.rt 0b100) = .ok .rtElSync ∧
      decode (.rt 0b101) = .ok .rtElSkip ∧
      decode (.rt 0b110) = .ok (.rtRsvd false) ∧
      decode (.rt 0b111) = .ok (.rtRsvd true)) ∧
    exec .rtInvalid s = .next { s with out := { s.out with route := none } } ∧
      exec .rtLaser s = .next { s with out := { s.out with route := some (.laser, .laser) } } ∧
      exec .rtAzSync s = .next { s with out := { s.out with route := some (.sync, .other) } } ∧
      exec .rtAzSkip s = .next { s with out := { s.out with route := some (.skip, .other) } } ∧
      exec .rtElSync s = .next { s with out := { s.out with route := some (.other, .sync) } } ∧
      exec .rtElSkip s = .next { s with out := { s.out with route := some (.other, .skip) } } ∧
      exec (.rtRsvd t) s = .next { s with out := { s.out with route := none } }

/-- After a routed pulse at most one instance is out of Idle, and after a routed LASER pulse neither is,
from any state, reserved codes included. The spec has the first as R184, marked as its own inference
from R145 and the AX rules. -/
def Obligations.RoutedPulseLeavesOneActive : Prop :=
  ∀ (s t : State) (level : Bool) (ts : Tick), exec (.sample level ts) s = .next t →
    (t.out.route ≠ none → t.az.state = AxisState.idle ∨ t.el.state = AxisState.idle) ∧
    (t.out.route = some (.laser, .laser) →
      t.az.state = AxisState.idle ∧ t.el.state = AxisState.idle)

/-! ### The axis FSMs -/

/-- The AX operations of the Idle and WaitSkipFromA rows as instructions, of either instance, with their
selector words (R162 to R169). That AX_WSA_SKIP is the only entry to ExpectLaserA (R168) is
`ExpectStatesHaveOneEntry`. -/
def Obligations.AxIdleWsaOperationsComplete : Prop :=
  ∀ (x : Axis) (ts : Tick) (s : State),
    (decode (.ax 0b00000 x ts) = .ok (.axIdleOther x ts) ∧
      decode (.ax 0b00001 x ts) = .ok (.axIdleSync x ts) ∧
      decode (.ax 0b00010 x ts) = .ok (.axIdleSkip x ts) ∧
      decode (.ax 0b00011 x ts) = .ok (.axIdleLaser x ts) ∧
      decode (.ax 0b00100 x ts) = .ok (.axWsaOther x ts) ∧
      decode (.ax 0b00101 x ts) = .ok (.axWsaSync x ts) ∧
      decode (.ax 0b00110 x ts) = .ok (.axWsaSkip x ts) ∧
      decode (.ax 0b00111 x ts) = .ok (.axWsaLaser x ts)) ∧
    exec (.axIdleOther x ts) s = .next (s.setAxis x { s.axis x with state := 0 }) ∧
      exec (.axIdleSync x ts) s =
        .next (s.setAxis x { s.axis x with pendA := ts, state := 1 }) ∧
      exec (.axIdleSkip x ts) s = .next (s.setAxis x { s.axis x with state := 2 }) ∧
      exec (.axIdleLaser x ts) s = .next (s.setAxis x { s.axis x with state := 0 }) ∧
      exec (.axWsaOther x ts) s =
        .next ((s.setAxis x { s.axis x with state := 0 }).signal (.sequenceViolation x 1)) ∧
      exec (.axWsaSync x ts) s =
        .next (s.setAxis x { s.axis x with pendA := ts, state := 1 }) ∧
      exec (.axWsaSkip x ts) s = .next (s.setAxis x { s.axis x with state := 3 }) ∧
      exec (.axWsaLaser x ts) s =
        .next ((s.setAxis x { s.axis x with state := 0 }).signal (.sequenceViolation x 1))

/-- The AX operations of the SeenBSync row, and AX_RSVD, as instructions, with their selector words (R170
to R173, R182). -/
def Obligations.AxSbsRsvdOperationsComplete : Prop :=
  ∀ (b : Bool) (c : BitVec 2) (x : Axis) (ts : Tick) (s : State),
    (decode (.ax 0b01000 x ts) = .ok (.axSbsOther x ts) ∧
      decode (.ax 0b01001 x ts) = .ok (.axSbsSync x ts) ∧
      decode (.ax 0b01010 x ts) = .ok (.axSbsSkip x ts) ∧
      decode (.ax 0b01011 x ts) = .ok (.axSbsLaser x ts) ∧
      decode (.ax (axWord 0b101 c) x ts) = .ok (.axRsvd5 c x ts) ∧
      decode (.ax (axWord 0b110 c) x ts) = .ok (.axRsvd67 false c x ts) ∧
      decode (.ax (axWord 0b111 c) x ts) = .ok (.axRsvd67 true c x ts)) ∧
    exec (.axSbsOther x ts) s =
        .next ((s.setAxis x { s.axis x with state := 0 }).signal (.sequenceViolation x 2)) ∧
      exec (.axSbsSync x ts) s =
        .next (s.setAxis x { s.axis x with pendB := ts, state := 4 }) ∧
      exec (.axSbsSkip x ts) s = .next (s.setAxis x { s.axis x with state := 2 }) ∧
      exec (.axSbsLaser x ts) s =
        .next ((s.setAxis x { s.axis x with state := 0 }).signal (.sequenceViolation x 2)) ∧
      exec (.axRsvd5 c x ts) s = .next (s.setAxis x { s.axis x with state := 0 }) ∧
      exec (.axRsvd67 b c x ts) s = .next (s.setAxis x { s.axis x with state := 0 })

/-- The AX operations of the ExpectLaserA and ExpectLaserB rows but for the laser cells, as instructions,
with their selector words (R174 to R176, R178 to R180). -/
def Obligations.AxElaElbOperationsComplete : Prop :=
  ∀ (x : Axis) (ts : Tick) (s : State),
    (decode (.ax 0b01100 x ts) = .ok (.axElaOther x ts) ∧
      decode (.ax 0b01101 x ts) = .ok (.axElaSync x ts) ∧
      decode (.ax 0b01110 x ts) = .ok (.axElaSkip x ts) ∧
      decode (.ax 0b10000 x ts) = .ok (.axElbOther x ts) ∧
      decode (.ax 0b10001 x ts) = .ok (.axElbSync x ts) ∧
      decode (.ax 0b10010 x ts) = .ok (.axElbSkip x ts)) ∧
    exec (.axElaOther x ts) s =
        .next ((s.setAxis x { s.axis x with state := 0 }).signal (.sequenceViolation x 3)) ∧
      exec (.axElaSync x ts) s =
        .next (s.setAxis x { s.axis x with pendA := ts, state := 1 }) ∧
      exec (.axElaSkip x ts) s = .next (s.setAxis x { s.axis x with state := 2 }) ∧
      exec (.axElbOther x ts) s =
        .next ((s.setAxis x { s.axis x with state := 0 }).signal (.sequenceViolation x 4)) ∧
      exec (.axElbSync x ts) s =
        .next (s.setAxis x { s.axis x with pendA := ts, state := 1 }) ∧
      exec (.axElbSkip x ts) s = .next (s.setAxis x { s.axis x with state := 2 })

/-- AX_ELA_LASER (R177) and AX_ELB_LASER (R181), with their selector words, are EVAL (R161) and the
move to Idle: accepted, the event of the pending sync of lighthouse L and the laser; rejected,
NoiseRejection; in both cases `X.last_L` is the new delta. The comparison is strict, in the
naturals, against `DEV_THRESH`; with no last delta it is `FIRST_DELTA_ACCEPT`. The payload of an
accepted laser is the emitter's, `EveryEventHasItsPayload`. -/
def Obligations.LasersEvaluate : Prop :=
  ∀ (x : Axis) (l : Lighthouse) (ts : Tick) (s : State),
    let r := s.axis x
    let op := if l = .a then Instr.axElaLaser x ts else Instr.axElbLaser x ts
    let pend := if l = .a then r.pendA else r.pendB
    let last := if l = .a then r.lastA else r.lastB
    let delta := ts - pend
    let r' : AxisRegs :=
      if l = .a then { r with state := 0, lastA := delta } else { r with state := 0, lastB := delta }
    let accept :=
      if last ≠ 0 then ((delta.toNat : Int) - last.toNat).natAbs < s.cfg.devThresh
      else s.cfg.firstDeltaAccept = true
    decode (.ax (if l = .a then 0b01111 else 0b10011) x ts) = .ok op ∧
      (accept →
        exec op s = .next ((s.setAxis x r').raiseEvent ⟨x, l, pend, ts⟩)) ∧
      (¬accept →
        exec op s = .next ((s.setAxis x r').signal (.noiseRejection x l delta last)))

/-- The AX selector chooses the operation the whole function of R183 runs, in every state and of every
state code. -/
def Obligations.AxSelectorChoosesOperation : Prop :=
  ∀ (s : State) (x : Axis) (c : PulseClass) (ts : Tick),
    runWord (.ax (axSelector (s.axis x).state c) x ts) s = .next (axisStep x c ts s)

/-- Neither axis instance reads or writes the other's registers: of two states that agree on everything
but the other instance, a SAMPLE makes two that agree on everything it writes here, this instance, the
debouncer and the assembler (R28). -/
def Obligations.AxesAreIndependent : Prop :=
  ∀ (s t : State) (x : Axis) (r : AxisRegs) (y : Axis) (level : Bool) (ts : Tick), y ≠ x →
    exec (.sample level ts) s = .next t →
      ∃ u, exec (.sample level ts) (s.setAxis y r) = .next u ∧
        u.axis x = t.axis x ∧ u.deb = t.deb ∧ u.pa = t.pa ∧ u.event x = t.event x

/-- `X.last_a` changes in no SAMPLE but one that evaluates a LASER pulse in ExpectLaserA, and `X.last_b`
in none but one that does so in ExpectLaserB (R32, R33, R185). -/
def Obligations.LastDeltasChangeOnlyByLasers : Prop :=
  ∀ (s t : State) (x : Axis) (level : Bool) (ts : Tick), exec (.sample level ts) s = .next t →
    ((t.axis x).lastA ≠ (s.axis x).lastA →
      (s.axis x).state = AxisState.expectLaserA ∧ t.out.route = some (.laser, .laser)) ∧
    ((t.axis x).lastB ≠ (s.axis x).lastB →
      (s.axis x).state = AxisState.expectLaserB ∧ t.out.route = some (.laser, .laser))

/-- ExpectLaserA is entered in no SAMPLE but one that routes the instance's skip to it in WaitSkipFromA,
ExpectLaserB in none but one that routes its sync to it in SeenBSync, and that is the only one that
changes `X.pend_b` (R168, R171). -/
def Obligations.ExpectStatesHaveOneEntry : Prop :=
  ∀ (s t : State) (x : Axis) (level : Bool) (ts : Tick), exec (.sample level ts) s = .next t →
    ((t.axis x).state = AxisState.expectLaserA → (s.axis x).state ≠ AxisState.expectLaserA →
      (s.axis x).state = AxisState.waitSkipFromA ∧
        t.out.route = some (if x = .az then (.skip, .other) else (.other, .skip))) ∧
    ((t.axis x).state = AxisState.expectLaserB → (s.axis x).state ≠ AxisState.expectLaserB →
      (s.axis x).state = AxisState.seenBSync ∧
        t.out.route = some (if x = .az then (.sync, .other) else (.other, .sync))) ∧
    ((t.axis x).pendB ≠ (s.axis x).pendB →
      (s.axis x).state = AxisState.seenBSync ∧ (t.axis x).state = AxisState.expectLaserB ∧
        t.out.route = some (if x = .az then (.sync, .other) else (.other, .sync)))

/-- Sync, SyncSkip, Laser on one axis from Idle with no prior delta emits exactly one event, in the last
step, of lighthouse A with the sync's and the laser's timestamps. The spec has this as R186 (a), marked
as its own inference from R161, R163, R168 and R177. -/
def Obligations.SequenceAEmitsOneEvent : Prop :=
  ∀ (s : State) (x : Axis) (a b l : Tick), (s.axis x).state = AxisState.idle →
    (s.axis x).lastA = 0 → s.cfg.firstDeltaAccept = true →
    (∀ y, y ≠ x → (s.axis y).state = AxisState.idle) →
      let s1 := presentPulse (syncType x) a s
      let s2 := presentPulse (skipType x) b s1
      let s3 := presentPulse PulseType.laser l s2
      s1.out.events = [] ∧ s2.out.events = [] ∧ s3.out.events = [⟨x, .a, a, l⟩] ∧
        (s3.axis x).lastA = l - a ∧ (s3.axis x).state = AxisState.idle ∧
        s1.out.conditions = [] ∧ s2.out.conditions = [] ∧ s3.out.conditions = []

/-- SyncSkip, Sync, Laser on one axis from Idle emits at most the event of lighthouse B, with the plain
sync's timestamp, and exactly when EVAL accepts (R160, R161). -/
def Obligations.SequenceBEmitsItsEvent : Prop :=
  ∀ (s : State) (x : Axis) (a b l : Tick), (s.axis x).state = AxisState.idle →
    (∀ y, y ≠ x → (s.axis y).state = AxisState.idle) →
      let s1 := presentPulse (skipType x) a s
      let s2 := presentPulse (syncType x) b s1
      let s3 := presentPulse PulseType.laser l s2
      s1.out.events = [] ∧ s2.out.events = [] ∧
        (s3.out.events =
          if evalAccepts s.cfg.toCfg (l - b) (s.axis x).lastB = true then [⟨x, .b, b, l⟩]
          else []) ∧
        (s3.axis x).lastB = l - b ∧ (s3.axis x).state = AxisState.idle ∧
        (s3.axis x).lastA = (s.axis x).lastA

/-- A second sequence whose delta differs from the first's, which was not 0, by `DEV_THRESH` or more
emits no event; `X.last_a` is the new delta (R161, R213). The spec has the sequence as R186 (b), marked as
its own inference. -/
def Obligations.DeviatingDeltaIsSuppressed : Prop :=
  ∀ (s : State) (x : Axis) (a b l : Tick), (s.axis x).state = AxisState.idle →
    (∀ y, y ≠ x → (s.axis y).state = AxisState.idle) →
    (s.axis x).lastA ≠ 0 →
    s.cfg.devThresh ≤ (((l - a).toNat : Int) - (s.axis x).lastA.toNat).natAbs →
      let s3 :=
        presentPulse PulseType.laser l (presentPulse (skipType x) b (presentPulse (syncType x) a s))
      s3.out.events = [] ∧ (s3.axis x).lastA = l - a ∧
        s3.out.conditions = [.noiseRejection x .a (l - a) (s.axis x).lastA]

/-! ### The emitter -/

/-- The four EMIT operations as instructions, with their selector words: each writes the payload of its
event to its axis's output, byte0 is 0, byte1 and byte2 are the low bytes of the two timestamps (R201 to
R205). -/
def Obligations.EmitOperationsComplete : Prop :=
  ∀ (sync laser : Tick) (s : State),
    let p : BitVec 24 := 0#8 ++ sync.extractLsb' 0 8 ++ laser.extractLsb' 0 8
    (decode (.em 0b00 sync laser) = .ok (.emitAzA ⟨.az, .a, sync, laser⟩) ∧
      decode (.em 0b01 sync laser) = .ok (.emitAzB ⟨.az, .b, sync, laser⟩) ∧
      decode (.em 0b10 sync laser) = .ok (.emitElA ⟨.el, .a, sync, laser⟩) ∧
      decode (.em 0b11 sync laser) = .ok (.emitElB ⟨.el, .b, sync, laser⟩)) ∧
      exec (.emitAzA ⟨.az, .a, sync, laser⟩) s =
        .next { s with out := { s.out with payloadAz := some p } } ∧
      exec (.emitAzB ⟨.az, .b, sync, laser⟩) s =
        .next { s with out := { s.out with payloadAz := some p } } ∧
      exec (.emitElA ⟨.el, .a, sync, laser⟩) s =
        .next { s with out := { s.out with payloadEl := some p } } ∧
      exec (.emitElB ⟨.el, .b, sync, laser⟩) s =
        .next { s with out := { s.out with payloadEl := some p } }

/-- byte0 is 0 whatever the lighthouse and the axis, byte1 and byte2 are the low bytes of the two
timestamps (R202), and from the payload alone the delta is known modulo 256. The spec marks the first, in
R201, and the last, in R203, as its own inferences. -/
def Obligations.PayloadGivesDeltaModulo256 : Prop :=
  ∀ e : Event,
    (payload e).extractLsb' 16 8 = 0 ∧
      (payload e).extractLsb' 8 8 = e.sync.extractLsb' 0 8 ∧
      (payload e).extractLsb' 0 8 = e.laser.extractLsb' 0 8 ∧
      (payload e).extractLsb' 0 8 - (payload e).extractLsb' 8 8 =
        (sub32 e.laser e.sync).extractLsb' 0 8

/-- After a SAMPLE each axis's payload output is the payload of the event it emitted, and is absent when
it emitted none (R200, R204). -/
def Obligations.EveryEventHasItsPayload : Prop :=
  ∀ (s t : State) (x : Axis) (level : Bool) (ts : Tick), exec (.sample level ts) s = .next t →
    t.evtPayload x = (t.event x).map payload

/-- A SAMPLE's list of events is the azimuth event, if there is one, and then the elevation event, if
there is one, from any state (R207). -/
def Obligations.AzimuthEventIsFirst : Prop :=
  ∀ (s t : State) (level : Bool) (ts : Tick), exec (.sample level ts) s = .next t →
    t.out.events = (t.event .az).toList ++ (t.event .el).toList

/-- From a legal state a SAMPLE emits at most one event, and signals at most one condition. The spec has
this in R184 and R214, marked as its own inference from R144, R145 and the AX rules. -/
def Obligations.AtMostOneEventFromLegal : Prop :=
  ∀ (s t : State) (level : Bool) (ts : Tick), Legal s → exec (.sample level ts) s = .next t →
    t.out.events.length ≤ 1 ∧ t.out.conditions.length ≤ 1

/-! ### The whole machine -/

/-- A SAMPLE is the chain of micro-operations its families' selector words choose, each run as an
instruction: one DEB, one PA, one RT for a pulse, one AX for each instance if it routes, one EMIT for
each event (R65, R92, R93). -/
def Obligations.SampleIsItsMicroOperations : Prop :=
  ∀ (s : State) (level : Bool) (ts : Tick),
    exec (.sample level ts) s = sampleBySelectors level ts s.beginStep

/-- `DEBUG_STATE` has no effect on a step but on the diagnostic outputs: steps of two states that differ
in it alone make two states that differ in it alone (R9, R225). -/
def Obligations.DiagnosticsDoNotInterfere : Prop :=
  ∀ (s : State) (b : Bool), step (s.setDebug b) = mapNext (fun t => t.setDebug b) (step s)

/-- The diagnostic outputs: valid exactly when `DEBUG_STATE` is set and a condition was signalled, the
code of the first, and 0 when not valid (R216 (e), R225). -/
def Obligations.DiagnosticOutputs : Prop :=
  ∀ s : State,
    (s.diagValid = true ↔ s.cfg.debugState = true ∧ s.out.conditions ≠ []) ∧
      (s.diagValid = false → s.diagCode = 0 ∧ s.diagInfo = none) ∧
      ∀ c cs, s.cfg.debugState = true → s.out.conditions = c :: cs →
        s.diagInfo = some c ∧
          s.diagCode =
            match c with
            | .unclassifiablePulse _ => 1
            | .sequenceViolation _ _ => 2
            | .noiseRejection _ _ _ _ => 3

/-- The block sees timestamps through differences alone: moving every timestamp by the same number of
ticks, across a wrap too, moves every timestamp register by as much and changes nothing else of the
registers, and the same axes emit (R13, R59, R247). -/
def Obligations.TimeShiftEquivariance : Prop :=
  ∀ (s t : State) (d : Tick) (level : Bool) (ts : Tick), exec (.sample level ts) s = .next t →
    ∃ u, exec (.sample level (ts + d)) (s.shift d) = .next u ∧ SameRegisters u (t.shift d) ∧
      ∀ x, u.evtValid x = t.evtValid x

/-- `PULSE @rise +width` from a low line produces one Pulse record of that rise, width and type, in its
last sample. R84 gives the expansion; its sentence on what the expansion does is marked as the spec's own
inference from R122, R123, R124, R127, R141 and R142. -/
def Obligations.PulseStimulusMakesOnePulse : Prop :=
  ∀ (s : State) (rise width : Tick), s.deb.mode = .notDebouncing → s.deb.stable = false →
    s.input = stimPulse s.cfg.toTunables rise width →
      (∀ k, 1 ≤ k → k < 2 * s.cfg.debThresh →
        ∃ u, core.run k s = .next u ∧ u.out.pulse = none) ∧
      ∃ u, core.run (2 * s.cfg.debThresh) s = .next u ∧
        u.out.pulse =
          some ⟨rise, width, classify s.cfg.toTunables rise (rise + width)⟩ ∧
        u.deb.stable = false ∧ u.deb.ts = rise + width ∧ u.deb.mode = .notDebouncing ∧
        u.input = []
end

