-- ==== Sys2Proof/Laws/State.lean ====
section
/-!
SUPPORT. One lemma per field per named update of the state, each true by `rfl` and tagged `@[simp]`, so
that no proof unfolds a record update.
-/

namespace Sys2Proof.Machine

/-! ### `beginStep` -/

@[simp] theorem beginStep_cfg (s : State) :
    (s.beginStep).cfg = s.cfg := rfl

@[simp] theorem beginStep_deb (s : State) :
    (s.beginStep).deb = s.deb := rfl

@[simp] theorem beginStep_pa (s : State) :
    (s.beginStep).pa = s.pa := rfl

@[simp] theorem beginStep_az (s : State) :
    (s.beginStep).az = s.az := rfl

@[simp] theorem beginStep_el (s : State) :
    (s.beginStep).el = s.el := rfl

@[simp] theorem beginStep_input (s : State) :
    (s.beginStep).input = s.input := rfl

@[simp] theorem beginStep_out (s : State) :
    (s.beginStep).out = Outputs.quiet := rfl

/-! ### `advance` -/

@[simp] theorem advance_cfg (s : State) :
    (s.advance).cfg = s.cfg := rfl

@[simp] theorem advance_deb (s : State) :
    (s.advance).deb = s.deb := rfl

@[simp] theorem advance_pa (s : State) :
    (s.advance).pa = s.pa := rfl

@[simp] theorem advance_az (s : State) :
    (s.advance).az = s.az := rfl

@[simp] theorem advance_el (s : State) :
    (s.advance).el = s.el := rfl

@[simp] theorem advance_input (s : State) :
    (s.advance).input = s.input.tail := rfl

@[simp] theorem advance_out (s : State) :
    (s.advance).out = Outputs.quiet := rfl

/-! ### `setDeb` -/

@[simp] theorem setDeb_cfg (s : State) (d : Deb) (c : Bool) :
    (s.setDeb d c).cfg = s.cfg := rfl

@[simp] theorem setDeb_deb (s : State) (d : Deb) (c : Bool) :
    (s.setDeb d c).deb = d := rfl

@[simp] theorem setDeb_pa (s : State) (d : Deb) (c : Bool) :
    (s.setDeb d c).pa = s.pa := rfl

@[simp] theorem setDeb_az (s : State) (d : Deb) (c : Bool) :
    (s.setDeb d c).az = s.az := rfl

@[simp] theorem setDeb_el (s : State) (d : Deb) (c : Bool) :
    (s.setDeb d c).el = s.el := rfl

@[simp] theorem setDeb_input (s : State) (d : Deb) (c : Bool) :
    (s.setDeb d c).input = s.input := rfl

@[simp] theorem setDeb_out_debCommit (s : State) (d : Deb) (c : Bool) :
    (s.setDeb d c).out.debCommit = c := rfl

@[simp] theorem setDeb_out_pulseType (s : State) (d : Deb) (c : Bool) :
    (s.setDeb d c).out.pulseType = s.out.pulseType := rfl

@[simp] theorem setDeb_out_pulse (s : State) (d : Deb) (c : Bool) :
    (s.setDeb d c).out.pulse = s.out.pulse := rfl

@[simp] theorem setDeb_out_route (s : State) (d : Deb) (c : Bool) :
    (s.setDeb d c).out.route = s.out.route := rfl

@[simp] theorem setDeb_out_events (s : State) (d : Deb) (c : Bool) :
    (s.setDeb d c).out.events = s.out.events := rfl

@[simp] theorem setDeb_out_payloadAz (s : State) (d : Deb) (c : Bool) :
    (s.setDeb d c).out.payloadAz = s.out.payloadAz := rfl

@[simp] theorem setDeb_out_payloadEl (s : State) (d : Deb) (c : Bool) :
    (s.setDeb d c).out.payloadEl = s.out.payloadEl := rfl

@[simp] theorem setDeb_out_conditions (s : State) (d : Deb) (c : Bool) :
    (s.setDeb d c).out.conditions = s.out.conditions := rfl

/-! ### `signal` -/

@[simp] theorem signal_cfg (s : State) (c : Condition) :
    (s.signal c).cfg = s.cfg := rfl

@[simp] theorem signal_deb (s : State) (c : Condition) :
    (s.signal c).deb = s.deb := rfl

@[simp] theorem signal_pa (s : State) (c : Condition) :
    (s.signal c).pa = s.pa := rfl

@[simp] theorem signal_az (s : State) (c : Condition) :
    (s.signal c).az = s.az := rfl

@[simp] theorem signal_el (s : State) (c : Condition) :
    (s.signal c).el = s.el := rfl

@[simp] theorem signal_input (s : State) (c : Condition) :
    (s.signal c).input = s.input := rfl

@[simp] theorem signal_out_debCommit (s : State) (c : Condition) :
    (s.signal c).out.debCommit = s.out.debCommit := rfl

@[simp] theorem signal_out_pulseType (s : State) (c : Condition) :
    (s.signal c).out.pulseType = s.out.pulseType := rfl

@[simp] theorem signal_out_pulse (s : State) (c : Condition) :
    (s.signal c).out.pulse = s.out.pulse := rfl

@[simp] theorem signal_out_route (s : State) (c : Condition) :
    (s.signal c).out.route = s.out.route := rfl

@[simp] theorem signal_out_events (s : State) (c : Condition) :
    (s.signal c).out.events = s.out.events := rfl

@[simp] theorem signal_out_payloadAz (s : State) (c : Condition) :
    (s.signal c).out.payloadAz = s.out.payloadAz := rfl

@[simp] theorem signal_out_payloadEl (s : State) (c : Condition) :
    (s.signal c).out.payloadEl = s.out.payloadEl := rfl

@[simp] theorem signal_out_conditions (s : State) (c : Condition) :
    (s.signal c).out.conditions = s.out.conditions ++ [c] := rfl

/-! ### `raiseEvent` -/

@[simp] theorem raiseEvent_cfg (s : State) (e : Event) :
    (s.raiseEvent e).cfg = s.cfg := rfl

@[simp] theorem raiseEvent_deb (s : State) (e : Event) :
    (s.raiseEvent e).deb = s.deb := rfl

@[simp] theorem raiseEvent_pa (s : State) (e : Event) :
    (s.raiseEvent e).pa = s.pa := rfl

@[simp] theorem raiseEvent_az (s : State) (e : Event) :
    (s.raiseEvent e).az = s.az := rfl

@[simp] theorem raiseEvent_el (s : State) (e : Event) :
    (s.raiseEvent e).el = s.el := rfl

@[simp] theorem raiseEvent_input (s : State) (e : Event) :
    (s.raiseEvent e).input = s.input := rfl

@[simp] theorem raiseEvent_out_debCommit (s : State) (e : Event) :
    (s.raiseEvent e).out.debCommit = s.out.debCommit := rfl

@[simp] theorem raiseEvent_out_pulseType (s : State) (e : Event) :
    (s.raiseEvent e).out.pulseType = s.out.pulseType := rfl

@[simp] theorem raiseEvent_out_pulse (s : State) (e : Event) :
    (s.raiseEvent e).out.pulse = s.out.pulse := rfl

@[simp] theorem raiseEvent_out_route (s : State) (e : Event) :
    (s.raiseEvent e).out.route = s.out.route := rfl

@[simp] theorem raiseEvent_out_events (s : State) (e : Event) :
    (s.raiseEvent e).out.events = s.out.events ++ [e] := rfl

@[simp] theorem raiseEvent_out_payloadAz (s : State) (e : Event) :
    (s.raiseEvent e).out.payloadAz = s.out.payloadAz := rfl

@[simp] theorem raiseEvent_out_payloadEl (s : State) (e : Event) :
    (s.raiseEvent e).out.payloadEl = s.out.payloadEl := rfl

@[simp] theorem raiseEvent_out_conditions (s : State) (e : Event) :
    (s.raiseEvent e).out.conditions = s.out.conditions := rfl

/-! ### `setPulseType` -/

@[simp] theorem setPulseType_cfg (s : State) (ty : PulseType) :
    (s.setPulseType ty).cfg = s.cfg := rfl

@[simp] theorem setPulseType_deb (s : State) (ty : PulseType) :
    (s.setPulseType ty).deb = s.deb := rfl

@[simp] theorem setPulseType_pa (s : State) (ty : PulseType) :
    (s.setPulseType ty).pa = s.pa := rfl

@[simp] theorem setPulseType_az (s : State) (ty : PulseType) :
    (s.setPulseType ty).az = s.az := rfl

@[simp] theorem setPulseType_el (s : State) (ty : PulseType) :
    (s.setPulseType ty).el = s.el := rfl

@[simp] theorem setPulseType_input (s : State) (ty : PulseType) :
    (s.setPulseType ty).input = s.input := rfl

@[simp] theorem setPulseType_out_debCommit (s : State) (ty : PulseType) :
    (s.setPulseType ty).out.debCommit = s.out.debCommit := rfl

@[simp] theorem setPulseType_out_pulseType (s : State) (ty : PulseType) :
    (s.setPulseType ty).out.pulseType = some ty := rfl

@[simp] theorem setPulseType_out_pulse (s : State) (ty : PulseType) :
    (s.setPulseType ty).out.pulse = s.out.pulse := rfl

@[simp] theorem setPulseType_out_route (s : State) (ty : PulseType) :
    (s.setPulseType ty).out.route = s.out.route := rfl

@[simp] theorem setPulseType_out_events (s : State) (ty : PulseType) :
    (s.setPulseType ty).out.events = s.out.events := rfl

@[simp] theorem setPulseType_out_payloadAz (s : State) (ty : PulseType) :
    (s.setPulseType ty).out.payloadAz = s.out.payloadAz := rfl

@[simp] theorem setPulseType_out_payloadEl (s : State) (ty : PulseType) :
    (s.setPulseType ty).out.payloadEl = s.out.payloadEl := rfl

@[simp] theorem setPulseType_out_conditions (s : State) (ty : PulseType) :
    (s.setPulseType ty).out.conditions = s.out.conditions := rfl

/-! ### `setPulse` -/

@[simp] theorem setPulse_cfg (s : State) (p : Option Pulse) :
    (s.setPulse p).cfg = s.cfg := rfl

@[simp] theorem setPulse_deb (s : State) (p : Option Pulse) :
    (s.setPulse p).deb = s.deb := rfl

@[simp] theorem setPulse_pa (s : State) (p : Option Pulse) :
    (s.setPulse p).pa = s.pa := rfl

@[simp] theorem setPulse_az (s : State) (p : Option Pulse) :
    (s.setPulse p).az = s.az := rfl

@[simp] theorem setPulse_el (s : State) (p : Option Pulse) :
    (s.setPulse p).el = s.el := rfl

@[simp] theorem setPulse_input (s : State) (p : Option Pulse) :
    (s.setPulse p).input = s.input := rfl

@[simp] theorem setPulse_out_debCommit (s : State) (p : Option Pulse) :
    (s.setPulse p).out.debCommit = s.out.debCommit := rfl

@[simp] theorem setPulse_out_pulseType (s : State) (p : Option Pulse) :
    (s.setPulse p).out.pulseType = s.out.pulseType := rfl

@[simp] theorem setPulse_out_pulse (s : State) (p : Option Pulse) :
    (s.setPulse p).out.pulse = p := rfl

@[simp] theorem setPulse_out_route (s : State) (p : Option Pulse) :
    (s.setPulse p).out.route = s.out.route := rfl

@[simp] theorem setPulse_out_events (s : State) (p : Option Pulse) :
    (s.setPulse p).out.events = s.out.events := rfl

@[simp] theorem setPulse_out_payloadAz (s : State) (p : Option Pulse) :
    (s.setPulse p).out.payloadAz = s.out.payloadAz := rfl

@[simp] theorem setPulse_out_payloadEl (s : State) (p : Option Pulse) :
    (s.setPulse p).out.payloadEl = s.out.payloadEl := rfl

@[simp] theorem setPulse_out_conditions (s : State) (p : Option Pulse) :
    (s.setPulse p).out.conditions = s.out.conditions := rfl

/-! ### `setRoute` -/

@[simp] theorem setRoute_cfg (s : State) (r : Option (PulseClass × PulseClass)) :
    (s.setRoute r).cfg = s.cfg := rfl

@[simp] theorem setRoute_deb (s : State) (r : Option (PulseClass × PulseClass)) :
    (s.setRoute r).deb = s.deb := rfl

@[simp] theorem setRoute_pa (s : State) (r : Option (PulseClass × PulseClass)) :
    (s.setRoute r).pa = s.pa := rfl

@[simp] theorem setRoute_az (s : State) (r : Option (PulseClass × PulseClass)) :
    (s.setRoute r).az = s.az := rfl

@[simp] theorem setRoute_el (s : State) (r : Option (PulseClass × PulseClass)) :
    (s.setRoute r).el = s.el := rfl

@[simp] theorem setRoute_input (s : State) (r : Option (PulseClass × PulseClass)) :
    (s.setRoute r).input = s.input := rfl

@[simp] theorem setRoute_out_debCommit (s : State) (r : Option (PulseClass × PulseClass)) :
    (s.setRoute r).out.debCommit = s.out.debCommit := rfl

@[simp] theorem setRoute_out_pulseType (s : State) (r : Option (PulseClass × PulseClass)) :
    (s.setRoute r).out.pulseType = s.out.pulseType := rfl

@[simp] theorem setRoute_out_pulse (s : State) (r : Option (PulseClass × PulseClass)) :
    (s.setRoute r).out.pulse = s.out.pulse := rfl

@[simp] theorem setRoute_out_route (s : State) (r : Option (PulseClass × PulseClass)) :
    (s.setRoute r).out.route = r := rfl

@[simp] theorem setRoute_out_events (s : State) (r : Option (PulseClass × PulseClass)) :
    (s.setRoute r).out.events = s.out.events := rfl

@[simp] theorem setRoute_out_payloadAz (s : State) (r : Option (PulseClass × PulseClass)) :
    (s.setRoute r).out.payloadAz = s.out.payloadAz := rfl

@[simp] theorem setRoute_out_payloadEl (s : State) (r : Option (PulseClass × PulseClass)) :
    (s.setRoute r).out.payloadEl = s.out.payloadEl := rfl

@[simp] theorem setRoute_out_conditions (s : State) (r : Option (PulseClass × PulseClass)) :
    (s.setRoute r).out.conditions = s.out.conditions := rfl

/-! ### `resetRegisters` -/

@[simp] theorem resetRegisters_cfg (s : State) :
    (resetRegisters s).cfg = s.cfg := rfl

@[simp] theorem resetRegisters_deb (s : State) :
    (resetRegisters s).deb = Deb.reset := rfl

@[simp] theorem resetRegisters_pa (s : State) :
    (resetRegisters s).pa = Pa.reset := rfl

@[simp] theorem resetRegisters_az (s : State) :
    (resetRegisters s).az = AxisRegs.reset := rfl

@[simp] theorem resetRegisters_el (s : State) :
    (resetRegisters s).el = AxisRegs.reset := rfl

@[simp] theorem resetRegisters_input (s : State) :
    (resetRegisters s).input = s.input := rfl

@[simp] theorem resetRegisters_out (s : State) :
    (resetRegisters s).out = s.out := rfl

/-! ### `presenting` -/

@[simp] theorem presenting_cfg (s : State) (ws : List PortWord) :
    (s.presenting ws).cfg = s.cfg := rfl

@[simp] theorem presenting_deb (s : State) (ws : List PortWord) :
    (s.presenting ws).deb = s.deb := rfl

@[simp] theorem presenting_pa (s : State) (ws : List PortWord) :
    (s.presenting ws).pa = s.pa := rfl

@[simp] theorem presenting_az (s : State) (ws : List PortWord) :
    (s.presenting ws).az = s.az := rfl

@[simp] theorem presenting_el (s : State) (ws : List PortWord) :
    (s.presenting ws).el = s.el := rfl

@[simp] theorem presenting_input (s : State) (ws : List PortWord) :
    (s.presenting ws).input = ws := rfl

@[simp] theorem presenting_out (s : State) (ws : List PortWord) :
    (s.presenting ws).out = s.out := rfl

/-! ### `withFetchWord` -/

@[simp] theorem withFetchWord_cfg (s : State) (nbits w : Nat) :
    (s.withFetchWord nbits w).cfg = s.cfg := rfl

@[simp] theorem withFetchWord_deb (s : State) (nbits w : Nat) :
    (s.withFetchWord nbits w).deb = s.deb := rfl

@[simp] theorem withFetchWord_pa (s : State) (nbits w : Nat) :
    (s.withFetchWord nbits w).pa = s.pa := rfl

@[simp] theorem withFetchWord_az (s : State) (nbits w : Nat) :
    (s.withFetchWord nbits w).az = s.az := rfl

@[simp] theorem withFetchWord_el (s : State) (nbits w : Nat) :
    (s.withFetchWord nbits w).el = s.el := rfl

@[simp] theorem withFetchWord_input (s : State) (nbits w : Nat) :
    (s.withFetchWord nbits w).input = PortWord.ofTable nbits w :: s.input := rfl

@[simp] theorem withFetchWord_out (s : State) (nbits w : Nat) :
    (s.withFetchWord nbits w).out = s.out := rfl

/-! ### `setDebug` -/

@[simp] theorem setDebug_cfg (s : State) (b : Bool) :
    (s.setDebug b).cfg = WfCfg.setDebug s.cfg b := rfl

@[simp] theorem setDebug_deb (s : State) (b : Bool) :
    (s.setDebug b).deb = s.deb := rfl

@[simp] theorem setDebug_pa (s : State) (b : Bool) :
    (s.setDebug b).pa = s.pa := rfl

@[simp] theorem setDebug_az (s : State) (b : Bool) :
    (s.setDebug b).az = s.az := rfl

@[simp] theorem setDebug_el (s : State) (b : Bool) :
    (s.setDebug b).el = s.el := rfl

@[simp] theorem setDebug_input (s : State) (b : Bool) :
    (s.setDebug b).input = s.input := rfl

@[simp] theorem setDebug_out (s : State) (b : Bool) :
    (s.setDebug b).out = s.out := rfl

/-! ### `shift` -/

@[simp] theorem shift_cfg (s : State) (d : Tick) :
    (s.shift d).cfg = s.cfg := rfl

@[simp] theorem shift_deb (s : State) (d : Tick) :
    (s.shift d).deb = Deb.shift s.deb d := rfl

@[simp] theorem shift_pa (s : State) (d : Tick) :
    (s.shift d).pa = { riseTs := s.pa.riseTs + d } := rfl

@[simp] theorem shift_az (s : State) (d : Tick) :
    (s.shift d).az = AxisRegs.shift s.az d := rfl

@[simp] theorem shift_el (s : State) (d : Tick) :
    (s.shift d).el = AxisRegs.shift s.el d := rfl

@[simp] theorem shift_input (s : State) (d : Tick) :
    (s.shift d).input = s.input := rfl

@[simp] theorem shift_out (s : State) (d : Tick) :
    (s.shift d).out = s.out := rfl

/-! ### `setPayload`, by axis -/

@[simp] theorem setPayload_cfg (s : State) (x : Axis) (p : BitVec 24) :
    (s.setPayload x p).cfg = s.cfg := by cases x <;> rfl

@[simp] theorem setPayload_deb (s : State) (x : Axis) (p : BitVec 24) :
    (s.setPayload x p).deb = s.deb := by cases x <;> rfl

@[simp] theorem setPayload_pa (s : State) (x : Axis) (p : BitVec 24) :
    (s.setPayload x p).pa = s.pa := by cases x <;> rfl

@[simp] theorem setPayload_az (s : State) (x : Axis) (p : BitVec 24) :
    (s.setPayload x p).az = s.az := by cases x <;> rfl

@[simp] theorem setPayload_el (s : State) (x : Axis) (p : BitVec 24) :
    (s.setPayload x p).el = s.el := by cases x <;> rfl

@[simp] theorem setPayload_input (s : State) (x : Axis) (p : BitVec 24) :
    (s.setPayload x p).input = s.input := by cases x <;> rfl

@[simp] theorem setPayload_out_debCommit (s : State) (x : Axis) (p : BitVec 24) :
    (s.setPayload x p).out.debCommit = s.out.debCommit := by cases x <;> rfl

@[simp] theorem setPayload_out_pulseType (s : State) (x : Axis) (p : BitVec 24) :
    (s.setPayload x p).out.pulseType = s.out.pulseType := by cases x <;> rfl

@[simp] theorem setPayload_out_pulse (s : State) (x : Axis) (p : BitVec 24) :
    (s.setPayload x p).out.pulse = s.out.pulse := by cases x <;> rfl

@[simp] theorem setPayload_out_route (s : State) (x : Axis) (p : BitVec 24) :
    (s.setPayload x p).out.route = s.out.route := by cases x <;> rfl

@[simp] theorem setPayload_out_events (s : State) (x : Axis) (p : BitVec 24) :
    (s.setPayload x p).out.events = s.out.events := by cases x <;> rfl

@[simp] theorem setPayload_out_conditions (s : State) (x : Axis) (p : BitVec 24) :
    (s.setPayload x p).out.conditions = s.out.conditions := by cases x <;> rfl

@[simp] theorem setPayload_az_payloadAz (s : State) (p : BitVec 24) :
    (s.setPayload .az p).out.payloadAz = some p := rfl

@[simp] theorem setPayload_az_payloadEl (s : State) (p : BitVec 24) :
    (s.setPayload .az p).out.payloadEl = s.out.payloadEl := rfl

@[simp] theorem setPayload_el_payloadAz (s : State) (p : BitVec 24) :
    (s.setPayload .el p).out.payloadAz = s.out.payloadAz := rfl

@[simp] theorem setPayload_el_payloadEl (s : State) (p : BitVec 24) :
    (s.setPayload .el p).out.payloadEl = some p := rfl

/-! ### `axis` and `setAxis` -/

@[simp] theorem axis_az (s : State) :
    s.axis .az = s.az := rfl

@[simp] theorem axis_el (s : State) :
    s.axis .el = s.el := rfl

@[simp] theorem setAxis_cfg (s : State) (x : Axis) (r : AxisRegs) :
    (s.setAxis x r).cfg = s.cfg := by cases x <;> rfl

@[simp] theorem setAxis_deb (s : State) (x : Axis) (r : AxisRegs) :
    (s.setAxis x r).deb = s.deb := by cases x <;> rfl

@[simp] theorem setAxis_pa (s : State) (x : Axis) (r : AxisRegs) :
    (s.setAxis x r).pa = s.pa := by cases x <;> rfl

@[simp] theorem setAxis_input (s : State) (x : Axis) (r : AxisRegs) :
    (s.setAxis x r).input = s.input := by cases x <;> rfl

@[simp] theorem setAxis_out (s : State) (x : Axis) (r : AxisRegs) :
    (s.setAxis x r).out = s.out := by cases x <;> rfl

@[simp] theorem setAxis_axis (s : State) (x : Axis) (r : AxisRegs) :
    (s.setAxis x r).axis x = r := by cases x <;> rfl

theorem setAxis_axis_of_ne (s : State) (x y : Axis) (r : AxisRegs) (h : y ≠ x) :
    (s.setAxis x r).axis y = s.axis y := by
  cases x <;> cases y <;> first | rfl | exact absurd rfl h

@[simp] theorem setAxis_az_az (s : State) (r : AxisRegs) :
    (s.setAxis .az r).az = r := rfl

@[simp] theorem setAxis_az_el (s : State) (r : AxisRegs) :
    (s.setAxis .az r).el = s.el := rfl

@[simp] theorem setAxis_el_az (s : State) (r : AxisRegs) :
    (s.setAxis .el r).az = s.az := rfl

@[simp] theorem setAxis_el_el (s : State) (r : AxisRegs) :
    (s.setAxis .el r).el = r := rfl

@[simp] theorem setAxis_setAxis (s : State) (x : Axis) (q r : AxisRegs) :
    (s.setAxis x q).setAxis x r = s.setAxis x r := by cases x <;> rfl

/-! ### `axis` after an update that writes no axis register -/

@[simp] theorem beginStep_axis (s : State) (y : Axis) :
    (s.beginStep).axis y = s.axis y := by cases y <;> rfl

@[simp] theorem advance_axis (s : State) (y : Axis) :
    (s.advance).axis y = s.axis y := by cases y <;> rfl

@[simp] theorem setDeb_axis (s : State) (d : Deb) (c : Bool) (y : Axis) :
    (s.setDeb d c).axis y = s.axis y := by cases y <;> rfl

@[simp] theorem signal_axis (s : State) (c : Condition) (y : Axis) :
    (s.signal c).axis y = s.axis y := by cases y <;> rfl

@[simp] theorem raiseEvent_axis (s : State) (e : Event) (y : Axis) :
    (s.raiseEvent e).axis y = s.axis y := by cases y <;> rfl

@[simp] theorem setPulseType_axis (s : State) (ty : PulseType) (y : Axis) :
    (s.setPulseType ty).axis y = s.axis y := by cases y <;> rfl

@[simp] theorem setPulse_axis (s : State) (p : Option Pulse) (y : Axis) :
    (s.setPulse p).axis y = s.axis y := by cases y <;> rfl

@[simp] theorem setRoute_axis (s : State) (r : Option (PulseClass × PulseClass)) (y : Axis) :
    (s.setRoute r).axis y = s.axis y := by cases y <;> rfl

@[simp] theorem presenting_axis (s : State) (ws : List PortWord) (y : Axis) :
    (s.presenting ws).axis y = s.axis y := by cases y <;> rfl

@[simp] theorem setDebug_axis (s : State) (b : Bool) (y : Axis) :
    (s.setDebug b).axis y = s.axis y := by cases y <;> rfl

@[simp] theorem setPayload_axis (s : State) (x : Axis) (p : BitVec 24) (y : Axis) :
    (s.setPayload x p).axis y = s.axis y := by cases x <;> cases y <;> rfl

@[simp] theorem shift_axis (s : State) (d : Tick) (y : Axis) :
    (s.shift d).axis y = AxisRegs.shift (s.axis y) d := by cases y <;> rfl

/-! ### `pend`, `last` and `setLast` -/

@[simp] theorem pend_a (r : AxisRegs) :
    r.pend .a = r.pendA := rfl

@[simp] theorem last_a (r : AxisRegs) :
    r.last .a = r.lastA := rfl

@[simp] theorem setLast_a_state (r : AxisRegs) (d : Tick) :
    (r.setLast .a d).state = r.state := rfl

@[simp] theorem setLast_a_pendA (r : AxisRegs) (d : Tick) :
    (r.setLast .a d).pendA = r.pendA := rfl

@[simp] theorem setLast_a_pendB (r : AxisRegs) (d : Tick) :
    (r.setLast .a d).pendB = r.pendB := rfl

@[simp] theorem setLast_a_lastA (r : AxisRegs) (d : Tick) :
    (r.setLast .a d).lastA = d := rfl

@[simp] theorem setLast_a_lastB (r : AxisRegs) (d : Tick) :
    (r.setLast .a d).lastB = r.lastB := rfl

@[simp] theorem pend_b (r : AxisRegs) :
    r.pend .b = r.pendB := rfl

@[simp] theorem last_b (r : AxisRegs) :
    r.last .b = r.lastB := rfl

@[simp] theorem setLast_b_state (r : AxisRegs) (d : Tick) :
    (r.setLast .b d).state = r.state := rfl

@[simp] theorem setLast_b_pendA (r : AxisRegs) (d : Tick) :
    (r.setLast .b d).pendA = r.pendA := rfl

@[simp] theorem setLast_b_pendB (r : AxisRegs) (d : Tick) :
    (r.setLast .b d).pendB = r.pendB := rfl

@[simp] theorem setLast_b_lastA (r : AxisRegs) (d : Tick) :
    (r.setLast .b d).lastA = r.lastA := rfl

@[simp] theorem setLast_b_lastB (r : AxisRegs) (d : Tick) :
    (r.setLast .b d).lastB = d := rfl

/-! ### Quiet outputs -/

@[simp] theorem quiet_debCommit : Outputs.quiet.debCommit = false := rfl

@[simp] theorem quiet_pulseType : Outputs.quiet.pulseType = none := rfl

@[simp] theorem quiet_pulse : Outputs.quiet.pulse = none := rfl

@[simp] theorem quiet_route : Outputs.quiet.route = none := rfl

@[simp] theorem quiet_events : Outputs.quiet.events = [] := rfl

@[simp] theorem quiet_payloadAz : Outputs.quiet.payloadAz = none := rfl

@[simp] theorem quiet_payloadEl : Outputs.quiet.payloadEl = none := rfl

@[simp] theorem quiet_conditions : Outputs.quiet.conditions = [] := rfl

end Sys2Proof.Machine
end

