-- ==== Sys2Proof/Laws/Ops.lean ====
section
/-!
SUPPORT. For each shared operation, one lemma that says once everything it can do. Proofs cite these
instead of unfolding the operations.
-/

namespace Sys2Proof.Machine

/-! ### The debouncer -/

/-- What the debouncer can do: it writes its own registers and its strobe, nothing else. -/
theorem debounce_cases (level : Bool) (ts : Tick) (s : State) :
    (s.deb.mode = .notDebouncing ∧ level = s.deb.stable ∧ debounce level ts s = debHold s) ∨
    (s.deb.mode = .notDebouncing ∧ level ≠ s.deb.stable ∧ 2 ≤ s.cfg.debThresh ∧
      debounce level ts s = debStart level ts s) ∨
    (s.deb.mode = .notDebouncing ∧ level ≠ s.deb.stable ∧ s.cfg.debThresh = 1 ∧
      debounce level ts s = debStartCommit level ts s) ∨
    (s.deb.mode = .debouncing ∧ level = s.deb.target ∧ s.cfg.debThresh ≤ s.deb.votes + 1 ∧
      debounce level ts s = debCommit s) ∨
    (s.deb.mode = .debouncing ∧ level = s.deb.target ∧ s.deb.votes + 1 < s.cfg.debThresh ∧
      debounce level ts s = debUp s) ∨
    (s.deb.mode = .debouncing ∧ level ≠ s.deb.target ∧ s.deb.votes ≤ 1 ∧
      debounce level ts s = debAbort s) ∨
    (s.deb.mode = .debouncing ∧ level ≠ s.deb.target ∧ 2 ≤ s.deb.votes ∧
      debounce level ts s = debDown s) := by
  have hN := s.cfg.wf.1.1
  unfold debounce
  cases hm : s.deb.mode <;> simp only
  · by_cases h : level = s.deb.stable
    · simp [h]
    · by_cases h2 : s.cfg.debThresh ≥ 2
      · simp [h, h2]
      · have : s.cfg.debThresh = 1 := by omega
        simp [h, this]
  · by_cases h : level = s.deb.target
    · by_cases h2 : s.deb.votes + 1 ≥ s.cfg.debThresh
      · simp [h, h2]
      · have : s.deb.votes + 1 < s.cfg.debThresh := by omega
        simp [h, this, Nat.not_le.mpr this]
    · by_cases h2 : s.deb.votes ≤ 1
      · simp [h, h2]
      · have : 2 ≤ s.deb.votes := by omega
        simp [h, this, h2]

/-- The debouncer writes its registers and its strobe only. -/
theorem debounce_eq_setDeb (level : Bool) (ts : Tick) (s : State) :
    ∃ d c, debounce level ts s = s.setDeb d c := by
  obtain ⟨-, -, h⟩ | ⟨-, -, -, h⟩ | ⟨-, -, -, h⟩ | ⟨-, -, -, h⟩ | ⟨-, -, -, h⟩ | ⟨-, -, -, h⟩ |
    ⟨-, -, -, h⟩ := debounce_cases level ts s <;> exact ⟨_, _, h⟩

/-- The vote counter fits `VW` bits whatever the threshold (R20). -/
theorem debThresh_lt_voteWidth (t : Tunables) : t.debThresh < 2 ^ voteWidth t := by
  unfold voteWidth
  split
  · next h => simp [h]
  · calc t.debThresh < 2 ^ (t.debThresh.log2 + 1) := Nat.lt_log2_self
      _ ≤ _ := Nat.pow_le_pow_right (by decide) (le_max_right _ _)

/-- Within R123's condition the vote counter goes up by one. -/
theorem votesUp_of_lt (t : Tunables) (v : Nat) (h : v + 1 < t.debThresh) : votesUp t v = v + 1 :=
  Nat.mod_eq_of_lt (h.trans (debThresh_lt_voteWidth t))

/-- Within R125's condition the vote counter goes down by one. -/
theorem votesDown_of_pos (t : Tunables) (v : Nat) (h : 0 < v) : votesDown t v = v - 1 := by
  simp [votesDown, Nat.ne_of_gt h]

/-! ### The classifier -/

/-- A bin index is at most 9 (R76). -/
theorem binIndex_le (t : Tunables) (w : Tick) : binIndex t w ≤ 9 := by
  unfold binIndex
  split_ifs <;> decide

/-- The classifier sets the pulse type of the width's bin, and signals when there is none. -/
theorem runClassifier_eq (w : Tick) (s : State) :
    runClassifier w s =
      if binIndex s.cfg.toTunables w = 0 then clNone w s
      else s.setPulseType (binType (binIndex s.cfg.toTunables w)) := by
  have h := binIndex_le s.cfg.toTunables w
  unfold runClassifier
  generalize binIndex s.cfg.toTunables w = k at h
  interval_cases k <;> rfl

/-- The classifier's result is `BIN_TYPE` of the bin index (R102). -/
@[simp] theorem runClassifier_out_pulseType (w : Tick) (s : State) :
    (runClassifier w s).out.pulseType = some (binType (binIndex s.cfg.toTunables w)) := by
  rw [runClassifier_eq]
  split
  · next h => rw [h]; rfl
  · rfl

/-- The classifier writes its result, and a condition where there is no bin; nothing else. -/
theorem runClassifier_frame (w : Tick) (s : State) :
    ∃ cs, runClassifier w s =
      { s with
        out :=
          { s.out with
            pulseType := some (binType (binIndex s.cfg.toTunables w))
            conditions := s.out.conditions ++ cs } } ∧
      cs = if binIndex s.cfg.toTunables w = 0 then [.unclassifiablePulse w] else [] := by
  rw [runClassifier_eq]
  split
  · next h => exact ⟨_, by rw [h]; rfl, rfl⟩
  · exact ⟨[], by simp [State.setPulseType], rfl⟩

/-! ### The pulse assembler -/

/-- What the assembler can do: nothing, latch a rise, or complete a pulse. -/
theorem assemble_cases (s : State) :
    (s.out.debCommit = false ∧ assemble s = paNone s) ∨
    (s.out.debCommit = true ∧ s.deb.stable = true ∧ assemble s = paRise s) ∨
    (s.out.debCommit = true ∧ s.deb.stable = false ∧ assemble s = paFall s) := by
  unfold assemble
  cases s.out.debCommit <;> cases s.deb.stable <;> simp

/-- PA_FALL writes no register: it puts out the classifier's result and the pulse of `pa.rise_ts`. -/
theorem paFall_eq (s : State) :
    paFall s =
      (runClassifier (pulseWidth s.pa.riseTs s.deb.ts) s).setPulse
        (some
          ⟨s.pa.riseTs, pulseWidth s.pa.riseTs s.deb.ts,
            classify s.cfg.toTunables s.pa.riseTs s.deb.ts⟩) := by
  simp [paFall, classify]

/-! ### The router -/

/-- The classes the router gives a pulse type; none for a type it does not route (R145, R152). -/
def routeClasses (type : PulseType) : Option (PulseClass × PulseClass) :=
  match type.toNat with
  | 1 => some (.laser, .laser)
  | 2 => some (.sync, .other)
  | 3 => some (.skip, .other)
  | 4 => some (.other, .sync)
  | 5 => some (.other, .skip)
  | _ => none

/-- The router sets the classes and nothing else. -/
theorem route_eq (type : PulseType) (s : State) : route type s = s.setRoute (routeClasses type) := by
  have h : type.toNat < 8 := type.isLt
  unfold route routeClasses
  generalize type.toNat = k at h
  interval_cases k <;> rfl

/-- Of a routed pulse's two classes one is OTHER or both are LASER (R145). -/
theorem routeClasses_cases (type : PulseType) :
    routeClasses type = none ∨ routeClasses type = some (.laser, .laser) ∨
      (∃ c, routeClasses type = some (c, .other)) ∨ ∃ c, routeClasses type = some (.other, c) := by
  have h : type.toNat < 8 := type.isLt
  unfold routeClasses
  generalize type.toNat = k at h
  interval_cases k <;> simp

/-! ### The axis FSMs -/

/-- What EVAL does: the event or the condition, and the new `last` register (R161). -/
theorem eval_eq (s : State) (x : Axis) (l : Lighthouse) (ts : Tick) :
    s.eval x l ts =
      (if evalAccepts s.cfg.toCfg (sub32 ts ((s.axis x).pend l)) ((s.axis x).last l) then
        s.raiseEvent ⟨x, l, (s.axis x).pend l, ts⟩
      else
        s.signal (.noiseRejection x l (sub32 ts ((s.axis x).pend l)) ((s.axis x).last l))).setAxis x
        ((s.axis x).setLast l (sub32 ts ((s.axis x).pend l))) :=
  rfl

/-- What an AX operation can do, by shape: move the state, lose a sequence, record a sync, or evaluate
a laser, which it does in ExpectLaserA and ExpectLaserB only (R183). -/
theorem axisStep_cases (x : Axis) (c : PulseClass) (ts : Tick) (s : State) :
    (∃ st, axisStep x c ts s = s.axisGoto x st) ∨
    (axisStep x c ts s = s.violate x (s.axis x).state) ∨
    (axisStep x c ts s = s.recordA x ts AxisState.waitSkipFromA) ∨
    (axisStep x c ts s = s.recordB x ts AxisState.expectLaserB) ∨
    (∃ l, c = .laser ∧
      (s.axis x).state = (if l = .a then AxisState.expectLaserA else AxisState.expectLaserB) ∧
      axisStep x c ts s = (s.eval x l ts).axisGoto x AxisState.idle) := by
  have hk : (s.axis x).state.toNat < 8 := (s.axis x).state.isLt
  have hs : (s.axis x).state = BitVec.ofNat 3 (s.axis x).state.toNat := by simp
  unfold axisStep
  generalize (s.axis x).state.toNat = n at hk hs
  interval_cases n <;> cases c <;>
    first
    | exact .inl ⟨_, rfl⟩
    | exact .inr (.inl (by rw [hs]; rfl))
    | exact .inr (.inr (.inl rfl))
    | exact .inr (.inr (.inr (.inl rfl)))
    | exact .inr (.inr (.inr (.inr ⟨.a, rfl, hs, rfl⟩)))
    | exact .inr (.inr (.inr (.inr ⟨.b, rfl, hs, rfl⟩)))

/-- What an AX operation can touch: its own instance's registers, the list of events and the list of
conditions; it appends at most one event, of its own instance, and only by a laser evaluation. -/
theorem axisStep_frame (x : Axis) (c : PulseClass) (ts : Tick) (s : State) :
    ∃ r es cs, axisStep x c ts s =
      { s with
        out :=
          { s.out with
            events := s.out.events ++ es
            conditions := s.out.conditions ++ cs } }.setAxis x r ∧
      (es = [] ∨
        ∃ l, es = [⟨x, l, (s.axis x).pend l, ts⟩] ∧ c = .laser ∧
          (s.axis x).state =
            if l = .a then AxisState.expectLaserA else AxisState.expectLaserB) := by
  obtain ⟨st, h⟩ | h | h | h | ⟨l, hc, hst, h⟩ := axisStep_cases x c ts s
  · exact ⟨{ s.axis x with state := st }, [], [], by simp [h, State.axisGoto], .inl rfl⟩
  · refine ⟨{ s.axis x with state := AxisState.idle }, [],
      [.sequenceViolation x (s.axis x).state], ?_, .inl rfl⟩
    rw [h]
    cases x <;> simp [State.violate, State.axisGoto, State.signal, State.setAxis]
  · exact ⟨{ s.axis x with pendA := ts, state := AxisState.waitSkipFromA }, [], [],
      by simp [h, State.recordA], .inl rfl⟩
  · exact ⟨{ s.axis x with pendB := ts, state := AxisState.expectLaserB }, [], [],
      by simp [h, State.recordB], .inl rfl⟩
  · by_cases ha :
      evalAccepts s.cfg.toCfg (sub32 ts ((s.axis x).pend l)) ((s.axis x).last l) = true
    · refine ⟨{ (s.axis x).setLast l (sub32 ts ((s.axis x).pend l)) with state := AxisState.idle },
        [⟨x, l, (s.axis x).pend l, ts⟩], [], ?_, .inr ⟨l, rfl, hc, hst⟩⟩
      rw [h]
      simp [State.axisGoto, State.eval, ha, State.raiseEvent]
    · refine ⟨{ (s.axis x).setLast l (sub32 ts ((s.axis x).pend l)) with state := AxisState.idle },
        [], [.noiseRejection x l (sub32 ts ((s.axis x).pend l)) ((s.axis x).last l)], ?_,
        .inl rfl⟩
      rw [h]
      simp [State.axisGoto, State.eval, ha, State.signal]

/-- An AX operation touches the other instance in nothing (R28). -/
theorem axisStep_other (x y : Axis) (c : PulseClass) (ts : Tick) (s : State) (h : y ≠ x) :
    (axisStep x c ts s).axis y = s.axis y := by
  obtain ⟨r, es, cs, heq, -⟩ := axisStep_frame x c ts s
  rw [heq, setAxis_axis_of_ne _ _ _ _ h]
  cases y <;> rfl

/-! ### The emitter -/

/-- All four EMIT operations share one pseudocode (R205). -/
theorem emit_eq (e : Event) (s : State) : emit e s = s.emitPayload e := by
  obtain ⟨x, l, _, _⟩ := e
  cases x <;> cases l <;> rfl

/-- The emitter writes the two payload outputs and nothing else (R200). -/
theorem emitAll_frame (es : List Event) (s : State) :
    ∃ pa pe, emitAll es s = { s with out := { s.out with payloadAz := pa, payloadEl := pe } } := by
  induction es generalizing s with
  | nil => exact ⟨_, _, rfl⟩
  | cons e es ih =>
    obtain ⟨pa, pe, h⟩ := ih (emit e s)
    refine ⟨pa, pe, ?_⟩
    change emitAll es (emit e s) = _
    rw [h, emit_eq]
    obtain ⟨x, _, _, _⟩ := e
    cases x <;> rfl

end Sys2Proof.Machine
end

