-- ==== Sys2Proof/Laws/Effects.lean ====
section
/-!
SUPPORT. The sub-steps of a SAMPLE as functions of the registers they own, and what a whole SAMPLE is:
nothing beyond the debouncer, a latched rise, or a pulse delivered. Proofs about a SAMPLE start from
`sampleChain_cases`.
-/

namespace Sys2Proof.Machine

/-! ### The debouncer -/

/-- R128 as a function of the debouncer's registers: the new registers and the strobe. -/
def debEffect (t : Tunables) (level : Bool) (ts : Tick) (d : Deb) : Deb × Bool :=
  match d.mode with
  | .notDebouncing =>
    if level = d.stable then (d, false)
    else if t.debThresh ≥ 2 then
      ({ d with candTs := ts, target := level, votes := 1, mode := .debouncing }, false)
    else (⟨.notDebouncing, level, ts, level, ts, 0⟩, true)
  | .debouncing =>
    if level = d.target then
      if d.votes + 1 ≥ t.debThresh then
        ({ d with stable := d.target, ts := d.candTs, votes := 0, mode := .notDebouncing }, true)
      else ({ d with votes := votesUp t d.votes }, false)
    else if d.votes ≤ 1 then ({ d with votes := 0, mode := .notDebouncing }, false)
    else ({ d with votes := votesDown t d.votes }, false)

/-- The debouncer reads its registers, the sample and the configuration, and writes its registers and
its strobe (R128). -/
theorem debounce_eq (level : Bool) (ts : Tick) (s : State) :
    debounce level ts s =
      s.setDeb (debEffect s.cfg.toTunables level ts s.deb).1
        (debEffect s.cfg.toTunables level ts s.deb).2 := by
  unfold debounce debEffect
  cases hm : s.deb.mode <;> simp only <;> split_ifs <;>
    first
    | rfl
    | simp [debUp, debDown, hm]

/-! ### The axis FSMs -/

/-- EVAL and the move to Idle after it, as a function of one instance's registers: the new registers,
the events, the conditions (R161, R177, R181). -/
def evalEffect (c : Cfg) (x : Axis) (l : Lighthouse) (ts : Tick) (r : AxisRegs) :
    AxisRegs × List Event × List Condition :=
  let delta := sub32 ts (r.pend l)
  ({ r.setLast l delta with state := AxisState.idle },
    bif evalAccepts c delta (r.last l) then [⟨x, l, r.pend l, ts⟩] else [],
    bif evalAccepts c delta (r.last l) then [] else [.noiseRejection x l delta (r.last l)])

/-- The transition table of R160 and R183 by columns, as a function of one instance's registers: the
new registers, the events, the conditions. -/
def axisEffect (c : Cfg) (x : Axis) (cls : PulseClass) (ts : Tick) (r : AxisRegs) :
    AxisRegs × List Event × List Condition :=
  match cls with
  | .sync =>
    if r.state.toNat = 2 then ({ r with pendB := ts, state := 4 }, [], [])
    else if r.state.toNat ≤ 4 then ({ r with pendA := ts, state := 1 }, [], [])
    else ({ r with state := 0 }, [], [])
  | .skip =>
    if r.state.toNat = 1 then ({ r with state := 3 }, [], [])
    else if r.state.toNat ≤ 4 then ({ r with state := 2 }, [], [])
    else ({ r with state := 0 }, [], [])
  | .laser =>
    if r.state.toNat = 3 then evalEffect c x .a ts r
    else if r.state.toNat = 4 then evalEffect c x .b ts r
    else
      ({ r with state := 0 }, [],
        if r.state.toNat = 1 ∨ r.state.toNat = 2 then [.sequenceViolation x r.state] else [])
  | .other =>
    ({ r with state := 0 }, [],
      if 1 ≤ r.state.toNat ∧ r.state.toNat ≤ 4 then [.sequenceViolation x r.state] else [])

/-- What EVAL and the move to Idle after it do, exactly (R161, R177, R181). -/
theorem eval_axisGoto_idle (s : State) (x : Axis) (l : Lighthouse) (ts : Tick) :
    (s.eval x l ts).axisGoto x AxisState.idle =
      { s with
        out :=
          { s.out with
            events := s.out.events ++ (evalEffect s.cfg.toCfg x l ts (s.axis x)).2.1
            conditions := s.out.conditions ++ (evalEffect s.cfg.toCfg x l ts (s.axis x)).2.2 }
        }.setAxis x (evalEffect s.cfg.toCfg x l ts (s.axis x)).1 := by
  rw [eval_eq]
  unfold evalEffect
  cases h : evalAccepts s.cfg.toCfg (sub32 ts ((s.axis x).pend l)) ((s.axis x).last l) <;>
    simp only [h, if_true, Bool.false_eq_true, if_false, cond_true, cond_false] <;>
    cases x <;>
    simp [State.axisGoto, State.setAxis, State.axis, State.signal, State.raiseEvent]

/-- What an AX operation does, exactly: it writes its own instance's registers, and appends its event
and its condition if it has one (R160, R183). -/
theorem axisStep_eq (x : Axis) (cls : PulseClass) (ts : Tick) (s : State) :
    axisStep x cls ts s =
      { s with
        out :=
          { s.out with
            events := s.out.events ++ (axisEffect s.cfg.toCfg x cls ts (s.axis x)).2.1
            conditions := s.out.conditions ++ (axisEffect s.cfg.toCfg x cls ts (s.axis x)).2.2 }
        }.setAxis x (axisEffect s.cfg.toCfg x cls ts (s.axis x)).1 := by
  have hk : (s.axis x).state.toNat < 8 := (s.axis x).state.isLt
  have hs : (s.axis x).state = BitVec.ofNat 3 (s.axis x).state.toNat := by simp
  unfold axisStep axisEffect
  generalize (s.axis x).state.toNat = n at hk hs
  interval_cases n <;> cases cls <;>
    first
    | exact eval_axisGoto_idle s x _ ts
    | (simp only [hs, List.append_nil]; cases x <;> rfl)
    | (simp only [hs]; cases x <;> simp <;> rfl)

/-- The OTHER column leads to Idle from every state code (R160, R182). -/
theorem axisEffect_other_state (c : Cfg) (x : Axis) (ts : Tick) (r : AxisRegs) :
    (axisEffect c x .other ts r).1.state = AxisState.idle := rfl

/-- The LASER column leads to Idle from every state code (R160, R182). -/
theorem axisEffect_laser_state (c : Cfg) (x : Axis) (ts : Tick) (r : AxisRegs) :
    (axisEffect c x .laser ts r).1.state = AxisState.idle := by
  unfold axisEffect evalEffect
  simp only
  split_ifs <;> rfl

/-- One operation emits no event, or one of its own instance, and signals at most one condition. -/
theorem axisEffect_outputs (c : Cfg) (x : Axis) (cls : PulseClass) (ts : Tick) (r : AxisRegs) :
    ((axisEffect c x cls ts r).2.1 = [] ∨
      ∃ e, (axisEffect c x cls ts r).2.1 = [e] ∧ e.axis = x) ∧
      (axisEffect c x cls ts r).2.2.length ≤ 1 := by
  have heval : ∀ l, ((evalEffect c x l ts r).2.1 = [] ∨
      ∃ e, (evalEffect c x l ts r).2.1 = [e] ∧ e.axis = x) ∧
      (evalEffect c x l ts r).2.2.length ≤ 1 := by
    intro l
    unfold evalEffect
    simp only
    cases evalAccepts c (sub32 ts (r.pend l)) (r.last l) <;> simp
  unfold axisEffect
  cases cls with
  | other => exact ⟨.inl rfl, by simp only; split <;> simp⟩
  | sync => simp only; split_ifs <;> simp
  | skip => simp only; split_ifs <;> simp
  | laser =>
    simp only
    split
    · exact heval .a
    · split
      · exact heval .b
      · exact ⟨.inl rfl, by simp only; split <;> simp⟩

/-! ### Frames of the later sub-steps -/

/-- What routing a pulse does: nothing but the route where it is not routed, else one operation on each
instance (R143, R145). -/
theorem routePulse_cases (type : PulseType) (ts : Tick) (s : State) :
    (routeClasses type = none ∧ routePulse type ts s = s.setRoute none) ∨
    ∃ a b, routeClasses type = some (a, b) ∧
      routePulse type ts s =
        { s with
          az := (axisEffect s.cfg.toCfg .az a ts s.az).1
          el := (axisEffect s.cfg.toCfg .el b ts s.el).1
          out :=
            { s.out with
              route := some (a, b)
              events :=
                s.out.events ++ (axisEffect s.cfg.toCfg .az a ts s.az).2.1 ++
                  (axisEffect s.cfg.toCfg .el b ts s.el).2.1
              conditions :=
                s.out.conditions ++ (axisEffect s.cfg.toCfg .az a ts s.az).2.2 ++
                  (axisEffect s.cfg.toCfg .el b ts s.el).2.2 } } := by
  unfold routePulse
  simp only [route_eq, setRoute_out_route]
  cases routeClasses type with
  | none => exact .inl ⟨rfl, rfl⟩
  | some p =>
    obtain ⟨a, b⟩ := p
    refine .inr ⟨a, b, rfl, ?_⟩
    simp only
    rw [axisStep_eq .az, axisStep_eq .el]
    rfl

/-- The emitter changes the two payload outputs and nothing else (R200). -/
theorem emitEvents_frame (s : State) :
    ∃ pa pe, emitEvents s = { s with out := { s.out with payloadAz := pa, payloadEl := pe } } :=
  emitAll_frame s.out.events s

/-! ### The whole SAMPLE -/

/-- The state when the pulse assembler has completed a pulse in this step: the debouncer's registers are
`d`, the pulse is on its way (R142). -/
def State.withPulse (s : State) (d : Deb) : State :=
  let width := pulseWidth s.pa.riseTs d.ts
  let type := classify s.cfg.toTunables s.pa.riseTs d.ts
  { s with
    deb := d
    out :=
      { Outputs.quiet with
        debCommit := true
        pulseType := some type
        pulse := some ⟨s.pa.riseTs, width, type⟩
        conditions := if type = PulseType.invalid then [.unclassifiablePulse width] else [] } }

/-- A bin's type is INVALID for the index 0 only (R102). -/
theorem binType_eq_invalid (k : Nat) (h : k ≤ 9) : binType k = PulseType.invalid ↔ k = 0 := by
  interval_cases k <;> decide

/-- A SAMPLE whose debouncer commits nothing ends there (R92, R140). -/
theorem sampleChain_of_hold (level : Bool) (ts : Tick) (s : State) (d : Deb)
    (h : debounce level ts s.beginStep = s.beginStep.setDeb d false) :
    sampleChain level ts s.beginStep = { s with deb := d, out := Outputs.quiet } := by
  unfold sampleChain
  rw [h]
  simp only [assemble, setDeb_out_debCommit, Bool.false_eq_true, if_false, paNone,
    setPulse_out_pulse]
  rfl

/-- A SAMPLE whose debouncer commits a rise latches it and ends there (R92, R141). -/
theorem sampleChain_of_rise (level : Bool) (ts : Tick) (s : State) (d : Deb)
    (h : debounce level ts s.beginStep = s.beginStep.setDeb d true) (hd : d.stable = true) :
    sampleChain level ts s.beginStep =
      { s with deb := d, pa := ⟨d.ts⟩, out := { Outputs.quiet with debCommit := true } } := by
  unfold sampleChain
  rw [h]
  simp only [assemble, setDeb_out_debCommit, setDeb_deb, hd, if_true, paRise, setPulse_out_pulse]
  rfl

/-- A SAMPLE whose debouncer commits a fall routes the pulse and emits (R92, R142, R143). -/
theorem sampleChain_of_fall (level : Bool) (ts : Tick) (s : State) (d : Deb)
    (h : debounce level ts s.beginStep = s.beginStep.setDeb d true) (hd : d.stable = false) :
    sampleChain level ts s.beginStep =
      emitEvents
        (routePulse (classify s.cfg.toTunables s.pa.riseTs d.ts) s.pa.riseTs (s.withPulse d)) := by
  have key : assemble (debounce level ts s.beginStep) = s.withPulse d := by
    rw [h]
    simp only [assemble, setDeb_out_debCommit, setDeb_deb, hd, if_true, Bool.false_eq_true, if_false]
    rw [paFall_eq]
    obtain ⟨cs, hc, hcs⟩ :=
      runClassifier_frame (pulseWidth s.pa.riseTs d.ts) (s.beginStep.setDeb d true)
    have hw :
        pulseWidth (s.beginStep.setDeb d true).pa.riseTs (s.beginStep.setDeb d true).deb.ts =
          pulseWidth s.pa.riseTs d.ts := rfl
    have ht : classify s.cfg.toTunables s.pa.riseTs d.ts = PulseType.invalid ↔
        binIndex (s.beginStep.setDeb d true).cfg.toTunables (pulseWidth s.pa.riseTs d.ts) = 0 :=
      binType_eq_invalid _ (binIndex_le _ _)
    rw [hw, hc, hcs]
    unfold State.withPulse
    simp only [ht]
    rfl
  unfold sampleChain
  simp only [key]
  rfl

/-- The three things a SAMPLE can be, with the debouncer's part of it. -/
theorem sampleChain_cases (level : Bool) (ts : Tick) (s : State) :
    (∃ d, debEffect s.cfg.toTunables level ts s.deb = (d, false) ∧
      sampleChain level ts s.beginStep = { s with deb := d, out := Outputs.quiet }) ∨
    (∃ d, debEffect s.cfg.toTunables level ts s.deb = (d, true) ∧ d.stable = true ∧
      sampleChain level ts s.beginStep =
        { s with deb := d, pa := ⟨d.ts⟩, out := { Outputs.quiet with debCommit := true } }) ∨
    (∃ d, debEffect s.cfg.toTunables level ts s.deb = (d, true) ∧ d.stable = false ∧
      sampleChain level ts s.beginStep =
        emitEvents
          (routePulse (classify s.cfg.toTunables s.pa.riseTs d.ts) s.pa.riseTs
            (s.withPulse d))) := by
  have h := debounce_eq level ts s.beginStep
  change debounce level ts s.beginStep =
    s.beginStep.setDeb (debEffect s.cfg.toTunables level ts s.deb).1
      (debEffect s.cfg.toTunables level ts s.deb).2 at h
  rcases he : debEffect s.cfg.toTunables level ts s.deb with ⟨d, c⟩
  rw [he] at h
  cases c
  · exact .inl ⟨d, rfl, sampleChain_of_hold _ _ _ _ h⟩
  · cases hst : d.stable
    · exact .inr (.inr ⟨d, rfl, hst, sampleChain_of_fall _ _ _ _ h hst⟩)
    · exact .inr (.inl ⟨d, rfl, hst, sampleChain_of_rise _ _ _ _ h hst⟩)

end Sys2Proof.Machine
end

