-- ==== Sys2Proof/Laws/PerInstr.lean ====
section
/-!
SUPPORT. The families of statements made per instruction. `EncodedFormat`: an instruction is encoded in
the format its row of the opcode table names (R65).
-/

namespace Sys2Proof.Laws.EncodedFormat

/-- The encoder writes the instruction in its own format. -/
def Statement (i : Instr) : Prop :=
  (encode i).format = some i.format

theorem reset (v s : Bool) (t : Tick) : Statement (.reset v s t) := rfl

theorem idle (s : Bool) (t : Tick) : Statement (.idle s t) := rfl

theorem sample (level : Bool) (ts : Tick) : Statement (.sample level ts) := rfl

theorem debHold (r z : Bool) (level : Bool) (ts : Tick) : Statement (.debHold r z level ts) := rfl

theorem debStart (z : Bool) (level : Bool) (ts : Tick) : Statement (.debStart z level ts) := rfl

theorem debStartCommit (z : Bool) (level : Bool) (ts : Tick) : Statement (.debStartCommit z level ts) := rfl

theorem debDown (r : Bool) (level : Bool) (ts : Tick) : Statement (.debDown r level ts) := rfl

theorem debAbort (r : Bool) (level : Bool) (ts : Tick) : Statement (.debAbort r level ts) := rfl

theorem debUp (z : Bool) (level : Bool) (ts : Tick) : Statement (.debUp z level ts) := rfl

theorem debCommit (z : Bool) (level : Bool) (ts : Tick) : Statement (.debCommit z level ts) := rfl

theorem paNone (s : Bool) : Statement (.paNone s) := rfl

theorem paFall : Statement (.paFall) := rfl

theorem paRise : Statement (.paRise) := rfl

theorem clNone (width : Tick) : Statement (.clNone width) := rfl

theorem clLaser (width : Tick) : Statement (.clLaser width) := rfl

theorem clAzSyncD0 (width : Tick) : Statement (.clAzSyncD0 width) := rfl

theorem clAzSyncD1 (width : Tick) : Statement (.clAzSyncD1 width) := rfl

theorem clElSyncD0 (width : Tick) : Statement (.clElSyncD0 width) := rfl

theorem clElSyncD1 (width : Tick) : Statement (.clElSyncD1 width) := rfl

theorem clAzSkipD0 (width : Tick) : Statement (.clAzSkipD0 width) := rfl

theorem clAzSkipD1 (width : Tick) : Statement (.clAzSkipD1 width) := rfl

theorem clElSkipD0 (width : Tick) : Statement (.clElSkipD0 width) := rfl

theorem clElSkipD1 (width : Tick) : Statement (.clElSkipD1 width) := rfl

theorem rtInvalid : Statement (.rtInvalid) := rfl

theorem rtLaser : Statement (.rtLaser) := rfl

theorem rtAzSync : Statement (.rtAzSync) := rfl

theorem rtAzSkip : Statement (.rtAzSkip) := rfl

theorem rtElSync : Statement (.rtElSync) := rfl

theorem rtElSkip : Statement (.rtElSkip) := rfl

theorem rtRsvd (t : Bool) : Statement (.rtRsvd t) := rfl

theorem axIdleOther (x : Axis) (ts : Tick) : Statement (.axIdleOther x ts) := rfl

theorem axIdleSync (x : Axis) (ts : Tick) : Statement (.axIdleSync x ts) := rfl

theorem axIdleSkip (x : Axis) (ts : Tick) : Statement (.axIdleSkip x ts) := rfl

theorem axIdleLaser (x : Axis) (ts : Tick) : Statement (.axIdleLaser x ts) := rfl

theorem axWsaOther (x : Axis) (ts : Tick) : Statement (.axWsaOther x ts) := rfl

theorem axWsaSync (x : Axis) (ts : Tick) : Statement (.axWsaSync x ts) := rfl

theorem axWsaSkip (x : Axis) (ts : Tick) : Statement (.axWsaSkip x ts) := rfl

theorem axWsaLaser (x : Axis) (ts : Tick) : Statement (.axWsaLaser x ts) := rfl

theorem axSbsOther (x : Axis) (ts : Tick) : Statement (.axSbsOther x ts) := rfl

theorem axSbsSync (x : Axis) (ts : Tick) : Statement (.axSbsSync x ts) := rfl

theorem axSbsSkip (x : Axis) (ts : Tick) : Statement (.axSbsSkip x ts) := rfl

theorem axSbsLaser (x : Axis) (ts : Tick) : Statement (.axSbsLaser x ts) := rfl

theorem axElaOther (x : Axis) (ts : Tick) : Statement (.axElaOther x ts) := rfl

theorem axElaSync (x : Axis) (ts : Tick) : Statement (.axElaSync x ts) := rfl

theorem axElaSkip (x : Axis) (ts : Tick) : Statement (.axElaSkip x ts) := rfl

theorem axElaLaser (x : Axis) (ts : Tick) : Statement (.axElaLaser x ts) := rfl

theorem axElbOther (x : Axis) (ts : Tick) : Statement (.axElbOther x ts) := rfl

theorem axElbSync (x : Axis) (ts : Tick) : Statement (.axElbSync x ts) := rfl

theorem axElbSkip (x : Axis) (ts : Tick) : Statement (.axElbSkip x ts) := rfl

theorem axElbLaser (x : Axis) (ts : Tick) : Statement (.axElbLaser x ts) := rfl

theorem axRsvd5 (c : BitVec 2) (x : Axis) (ts : Tick) : Statement (.axRsvd5 c x ts) := rfl

theorem axRsvd67 (s : Bool) (c : BitVec 2) (x : Axis) (ts : Tick) : Statement (.axRsvd67 s c x ts) := rfl

theorem emitAzA (e : Event) : Statement (.emitAzA e) := rfl

theorem emitAzB (e : Event) : Statement (.emitAzB e) := rfl

theorem emitElA (e : Event) : Statement (.emitElA e) := rfl

theorem emitElB (e : Event) : Statement (.emitElB e) := rfl

end Sys2Proof.Laws.EncodedFormat
end

