-- ==== Sys2Proof/Laws/Words.lean ====
section
/-!
SUPPORT. What the bits of an encoded word are, one lemma per field of each format, each for reading a bit
by `getLsbD` and, tagged `@[simp]`, in the indexed form simp rewrites that to.
-/

namespace Sys2Proof

theorem inWord_rst_getLsbD (r v l : Bool) (t : Tick) : (inWord r v l t).getLsbD 34 = r := by
  simp only [inWord, BitVec.getLsbD_cast, BitVec.getLsbD_append]
  simp

@[simp] theorem inWord_rst (r v l : Bool) (t : Tick) : (inWord r v l t)[34] = r :=
  inWord_rst_getLsbD r v l t

theorem inWord_valid_getLsbD (r v l : Bool) (t : Tick) : (inWord r v l t).getLsbD 33 = v := by
  simp only [inWord, BitVec.getLsbD_cast, BitVec.getLsbD_append]
  simp

@[simp] theorem inWord_valid (r v l : Bool) (t : Tick) : (inWord r v l t)[33] = v :=
  inWord_valid_getLsbD r v l t

theorem inWord_level_getLsbD (r v l : Bool) (t : Tick) : (inWord r v l t).getLsbD 32 = l := by
  simp only [inWord, BitVec.getLsbD_cast, BitVec.getLsbD_append]
  simp

@[simp] theorem inWord_level (r v l : Bool) (t : Tick) : (inWord r v l t)[32] = l :=
  inWord_level_getLsbD r v l t

@[simp] theorem inWord_ts (r v l : Bool) (t : Tick) : (inWord r v l t).extractLsb' 0 32 = t := by
  ext i hi
  simp only [inWord, BitVec.getElem_extractLsb', BitVec.getLsbD_cast, BitVec.getLsbD_append]
  simp [hi]

theorem debWord_m_getLsbD (m x r z : Bool) : (debWord m x r z).getLsbD 3 = m := by
  cases m <;> cases x <;> cases r <;> cases z <;> rfl

@[simp] theorem debWord_m (m x r z : Bool) : (debWord m x r z)[3] = m :=
  debWord_m_getLsbD m x r z

theorem debWord_x_getLsbD (m x r z : Bool) : (debWord m x r z).getLsbD 2 = x := by
  cases m <;> cases x <;> cases r <;> cases z <;> rfl

@[simp] theorem debWord_x (m x r z : Bool) : (debWord m x r z)[2] = x :=
  debWord_x_getLsbD m x r z

theorem debWord_r_getLsbD (m x r z : Bool) : (debWord m x r z).getLsbD 1 = r := by
  cases m <;> cases x <;> cases r <;> cases z <;> rfl

@[simp] theorem debWord_r (m x r z : Bool) : (debWord m x r z)[1] = r :=
  debWord_r_getLsbD m x r z

theorem debWord_z_getLsbD (m x r z : Bool) : (debWord m x r z).getLsbD 0 = z := by
  cases m <;> cases x <;> cases r <;> cases z <;> rfl

@[simp] theorem debWord_z (m x r z : Bool) : (debWord m x r z)[0] = z :=
  debWord_z_getLsbD m x r z

theorem pairWord_hi_getLsbD (a b : Bool) : (pairWord a b).getLsbD 1 = a := by
  cases a <;> cases b <;> rfl

@[simp] theorem pairWord_hi (a b : Bool) : (pairWord a b)[1] = a :=
  pairWord_hi_getLsbD a b

theorem pairWord_lo_getLsbD (a b : Bool) : (pairWord a b).getLsbD 0 = b := by
  cases a <;> cases b <;> rfl

@[simp] theorem pairWord_lo (a b : Bool) : (pairWord a b)[0] = b :=
  pairWord_lo_getLsbD a b

@[simp] theorem axWord_state (st : AxisState) (c : BitVec 2) :
    (axWord st c).extractLsb' 2 3 = st := by
  ext i hi
  simp only [axWord, BitVec.getElem_extractLsb', BitVec.getLsbD_cast, BitVec.getLsbD_append]
  simp [hi]
  omega

@[simp] theorem axWord_class (st : AxisState) (c : BitVec 2) :
    (axWord st c).extractLsb' 0 2 = c := by
  ext i hi
  simp only [axWord, BitVec.getElem_extractLsb', BitVec.getLsbD_cast, BitVec.getLsbD_append]
  simp [hi]

theorem axWord_state0_getLsbD (st : AxisState) (c : BitVec 2) :
    (axWord st c).getLsbD 2 = st.getLsbD 0 := by
  simp only [axWord, BitVec.getLsbD_cast, BitVec.getLsbD_append]
  simp

@[simp] theorem axWord_state0 (st : AxisState) (c : BitVec 2) : (axWord st c)[2] = st[0] :=
  axWord_state0_getLsbD st c

@[simp] theorem ofCode_code (c : PulseClass) : PulseClass.ofCode c.code = c := by
  cases c <;> rfl

end Sys2Proof
end

