-- ==== Sys2Proof/Laws/Step.lean ====
section
/-!
SUPPORT. The step and runs of steps: what a step is when the next word is known, and one step of a run.
-/

namespace Sys2Proof.Machine

/-- A step on a word that decodes. -/
theorem step_of_decode (s : State) (w : PortWord) (rest : List PortWord) (i : Instr)
    (hw : s.input = w :: rest) (hd : decode w = .ok i) :
    step s = exec i { s with input := rest, out := Outputs.quiet } := by
  simp [step, State.fetch, State.advance, hw, hd]

/-- `S <level> @<ts>` decodes to SAMPLE. -/
theorem decode_stimSample (level : Bool) (ts : Tick) :
    decode (stimSample level ts) = .ok (.sample level ts) := by
  simp [stimSample, decode, decodeIn]

/-- A run of no steps. -/
theorem core_run_zero (s : State) : core.run 0 s = .next s := rfl

/-- A run whose first step is known. -/
theorem core_run_succ (k : Nat) (s t : State) (h : step s = .next t) :
    core.run (k + 1) s = core.run k t := by
  have hc : core.step s = .next t := h
  simp only [Host.Core.run, hc]

/-- The last step of a run. -/
theorem core_run_succ_last (k : Nat) (s t : State) (h : core.run k s = .next t) :
    core.run (k + 1) s = step t := by
  induction k generalizing s with
  | zero =>
    cases h
    have hc : step t = core.step t := rfl
    rw [hc]
    simp only [Host.Core.run]
    cases core.step t <;> rfl
  | succ k ih =>
    simp only [Host.Core.run] at h ih ⊢
    cases hc : core.step s with
    | next u =>
      rw [hc] at h
      simpa using ih u h
    | fault r =>
      rw [hc] at h
      cases h
    | refused r =>
      rw [hc] at h
      cases h

end Sys2Proof.Machine
end

