-- ==== Sys2Proof/Tests/Slice0.lean ====
section
/-!
SUPPORT. Tests. Expected results are the vectors of spec/95_test_vectors.md (named DB, CL, PA, RT, A, E,
EM, DG, IN there), or worked out by hand from the rule a comment cites. After them, for each statement
of Certificates/Slice0/Obligations.lean that has hypotheses, a state and operands that meet them all.
-/

namespace Sys2Proof.Tests

open Sys2Proof.Machine

/-! ### Helpers -/

/-- The reference configuration of R115 with `DEB_THRESH = n + 1`. -/
def refCfg (n : Nat) (debug : Bool) : WfCfg :=
  { toTunables := Config.ref (n + 1)
    devThresh := 4630
    debugState := debug
    firstDeltaAccept := true
    wf := ⟨⟨Nat.succ_le_succ (Nat.zero_le n), Config.ref_wf.2⟩, show 1 ≤ 4630 by decide, show 4630 ≤ 2 ^ 32 by decide⟩ }

/-- The reset state under the reference configuration with `DEB_THRESH = n + 1`. -/
def st (n : Nat) : State :=
  { State.reset with cfg := refCfg n false }

/-- The start state of the vectors A1 to A20, with the azimuth state given. -/
def azIn (code : AxisState) : State :=
  { st 1 with az := ⟨code, 1000, 2000, 3000, 4000⟩ }

/-- A state of ExpectLaserA with a pending sync and a last delta, for the vectors E1 to E9. -/
def ela (pend last : Tick) : State :=
  { st 1 with az := ⟨3, pend, 0, last, 0⟩ }

/-- A debouncer in a debounce towards `target`. -/
def debouncing (n : Nat) (target : Bool) (cand : Tick) (votes : Nat) : State :=
  { st n with deb := ⟨.debouncing, !target, 7, target, cand, votes⟩, pa := ⟨1000⟩ }

/-- The next state of an instruction, and the state itself where there is none. -/
def after (i : Instr) (s : State) : State :=
  match exec i s with
  | .next t => t
  | .fault _ => s
  | .refused _ => s

/-- The next state of a step. -/
def stepped (s : State) : State :=
  match step s with
  | .next t => t
  | .fault _ => s
  | .refused _ => s

/-! ### Well-formedness refuses what is ill formed -/

theorem test_emitAzA_wrong_axis_refused :
    Instr.WellFormed (.emitAzA ⟨.el, .a, 0, 0⟩) = false := by decide

theorem test_emitAzB_wrong_lighthouse_refused :
    Instr.WellFormed (.emitAzB ⟨.az, .a, 0, 0⟩) = false := by decide

theorem test_emitElA_wrong_axis_refused :
    Instr.WellFormed (.emitElA ⟨.az, .a, 0, 0⟩) = false := by decide

theorem test_emitElB_wrong_lighthouse_refused :
    Instr.WellFormed (.emitElB ⟨.el, .a, 0, 0⟩) = false := by decide

/-- A configuration made from the reference bins for the tests of `WF` (R11). -/
def cfgOf (t : Tunables) (dev : Nat) : Cfg :=
  { toTunables := t, devThresh := dev, debugState := false, firstDeltaAccept := true }

theorem test_ref_admitted : (Cfg.checked (cfgOf (Config.ref 2) 4630)).isSome = true := by decide

theorem test_debThresh_zero_refused : Cfg.checked (cfgOf (Config.ref 0) 4630) = none := by decide

theorem test_devThresh_zero_refused : Cfg.checked (cfgOf (Config.ref 2) 0) = none := by decide

theorem test_devThresh_too_large_refused :
    Cfg.checked (cfgOf (Config.ref 2) (2 ^ 32 + 1)) = none := by decide

theorem test_negative_width_refused :
    Cfg.checked (cfgOf { Config.ref 2 with widthBias := -102 } 4630) = none := by decide

theorem test_empty_bin_refused :
    Cfg.checked (cfgOf { Config.ref 2 with laser := ⟨101, 101⟩ } 4630) = none := by decide

theorem test_width_past_top_refused :
    Cfg.checked (cfgOf { Config.ref 2 with widthBias := 2 ^ 32 - 1399 } 4630) = none := by decide

-- CL5: bin 2 grown to 676 overlaps bin 4.
theorem test_overlap_refused :
    Cfg.checked (cfgOf { Config.ref 2 with azSyncD0 := ⟨586, 676⟩ } 4630) = none := by decide

/-! ### Decoding. Every constructor's word, written out from the tables of R66 and R74 to R79. -/

-- IN1 to IN8.
theorem test_decode_reset :
    decode (.inp 0x400000000) = .ok (.reset false false 0) ∧
      decode (.inp 0x7FFFFFFFF) = .ok (.reset true true 0xFFFFFFFF) ∧
      decode (.inp 0x500000001) = .ok (.reset false true 1) := by decide

theorem test_decode_idle :
    decode (.inp 0x000000000) = .ok (.idle false 0) ∧
      decode (.inp 0x112345678) = .ok (.idle true 0x12345678) := by decide

theorem test_decode_sample :
    decode (.inp 0x200000672) = .ok (.sample false 1650) ∧
      decode (.inp 0x3000003E8) = .ok (.sample true 1000) ∧
      decode (.inp 0x3FFFFFFFF) = .ok (.sample true 4294967295) := by decide

-- Each pattern `m x r z` with its open bits both ways.
theorem test_decode_debHold :
    decode (.deb 0b0000 true 9) = .ok (.debHold false false true 9) ∧
      decode (.deb 0b0011 true 9) = .ok (.debHold true true true 9) := by decide

theorem test_decode_debStart :
    decode (.deb 0b0100 true 9) = .ok (.debStart false true 9) ∧
      decode (.deb 0b0101 true 9) = .ok (.debStart true true 9) := by decide

theorem test_decode_debStartCommit :
    decode (.deb 0b0110 true 9) = .ok (.debStartCommit false true 9) ∧
      decode (.deb 0b0111 true 9) = .ok (.debStartCommit true true 9) := by decide

theorem test_decode_debDown :
    decode (.deb 0b1000 true 9) = .ok (.debDown false true 9) ∧
      decode (.deb 0b1010 true 9) = .ok (.debDown true true 9) := by decide

theorem test_decode_debAbort :
    decode (.deb 0b1001 true 9) = .ok (.debAbort false true 9) ∧
      decode (.deb 0b1011 true 9) = .ok (.debAbort true true 9) := by decide

theorem test_decode_debUp :
    decode (.deb 0b1100 true 9) = .ok (.debUp false true 9) ∧
      decode (.deb 0b1101 true 9) = .ok (.debUp true true 9) := by decide

theorem test_decode_debCommit :
    decode (.deb 0b1110 true 9) = .ok (.debCommit false true 9) ∧
      decode (.deb 0b1111 true 9) = .ok (.debCommit true true 9) := by decide

theorem test_decode_pa :
    decode (.pa 0b00) = .ok (.paNone false) ∧ decode (.pa 0b01) = .ok (.paNone true) ∧
      decode (.pa 0b10) = .ok .paFall ∧ decode (.pa 0b11) = .ok .paRise := by decide

theorem test_decode_cl :
    decode (.cl 0b0000 650) = .ok (.clNone 650) ∧
      decode (.cl 0b0001 650) = .ok (.clLaser 650) ∧
      decode (.cl 0b0010 650) = .ok (.clAzSyncD0 650) ∧
      decode (.cl 0b0011 650) = .ok (.clAzSyncD1 650) ∧
      decode (.cl 0b0100 650) = .ok (.clElSyncD0 650) ∧
      decode (.cl 0b0101 650) = .ok (.clElSyncD1 650) ∧
      decode (.cl 0b0110 650) = .ok (.clAzSkipD0 650) ∧
      decode (.cl 0b0111 650) = .ok (.clAzSkipD1 650) ∧
      decode (.cl 0b1000 650) = .ok (.clElSkipD0 650) ∧
      decode (.cl 0b1001 650) = .ok (.clElSkipD1 650) := by decide

theorem test_decode_cl_reserved :
    decode (.cl 0b1010 650) = .error (.clSelectorReserved 10) ∧
      decode (.cl 0b1111 650) = .error (.clSelectorReserved 15) := by decide

theorem test_decode_rt :
    decode (.rt 0b000) = .ok .rtInvalid ∧
      decode (.rt 0b001) = .ok .rtLaser ∧
      decode (.rt 0b010) = .ok .rtAzSync ∧
      decode (.rt 0b011) = .ok .rtAzSkip ∧
      decode (.rt 0b100) = .ok .rtElSync ∧
      decode (.rt 0b101) = .ok .rtElSkip ∧
      decode (.rt 0b110) = .ok (.rtRsvd false) ∧
      decode (.rt 0b111) = .ok (.rtRsvd true) := by decide

theorem test_decode_axIdle :
    decode (.ax 0b00000 .el 6) = .ok (.axIdleOther .el 6) ∧
      decode (.ax 0b00001 .el 6) = .ok (.axIdleSync .el 6) ∧
      decode (.ax 0b00010 .el 6) = .ok (.axIdleSkip .el 6) ∧
      decode (.ax 0b00011 .el 6) = .ok (.axIdleLaser .el 6) := by decide

theorem test_decode_axWsa :
    decode (.ax 0b00100 .el 6) = .ok (.axWsaOther .el 6) ∧
      decode (.ax 0b00101 .el 6) = .ok (.axWsaSync .el 6) ∧
      decode (.ax 0b00110 .el 6) = .ok (.axWsaSkip .el 6) ∧
      decode (.ax 0b00111 .el 6) = .ok (.axWsaLaser .el 6) := by decide

theorem test_decode_axSbs :
    decode (.ax 0b01000 .el 6) = .ok (.axSbsOther .el 6) ∧
      decode (.ax 0b01001 .el 6) = .ok (.axSbsSync .el 6) ∧
      decode (.ax 0b01010 .el 6) = .ok (.axSbsSkip .el 6) ∧
      decode (.ax 0b01011 .el 6) = .ok (.axSbsLaser .el 6) := by decide

theorem test_decode_axEla :
    decode (.ax 0b01100 .el 6) = .ok (.axElaOther .el 6) ∧
      decode (.ax 0b01101 .el 6) = .ok (.axElaSync .el 6) ∧
      decode (.ax 0b01110 .el 6) = .ok (.axElaSkip .el 6) ∧
      decode (.ax 0b01111 .el 6) = .ok (.axElaLaser .el 6) := by decide

theorem test_decode_axElb :
    decode (.ax 0b10000 .el 6) = .ok (.axElbOther .el 6) ∧
      decode (.ax 0b10001 .el 6) = .ok (.axElbSync .el 6) ∧
      decode (.ax 0b10010 .el 6) = .ok (.axElbSkip .el 6) ∧
      decode (.ax 0b10011 .el 6) = .ok (.axElbLaser .el 6) := by decide

theorem test_decode_axRsvd :
    decode (.ax 0b10110 .az 6) = .ok (.axRsvd5 0b10 .az 6) ∧
      decode (.ax 0b11001 .az 6) = .ok (.axRsvd67 false 0b01 .az 6) ∧
      decode (.ax 0b11111 .az 6) = .ok (.axRsvd67 true 0b11 .az 6) := by decide

theorem test_decode_em :
    decode (.em 0b00 1 2) = .ok (.emitAzA ⟨.az, .a, 1, 2⟩) ∧
      decode (.em 0b01 1 2) = .ok (.emitAzB ⟨.az, .b, 1, 2⟩) ∧
      decode (.em 0b10 1 2) = .ok (.emitElA ⟨.el, .a, 1, 2⟩) ∧
      decode (.em 0b11 1 2) = .ok (.emitElB ⟨.el, .b, 1, 2⟩) := by decide

theorem test_decode_unformatted : decode (.unformatted 7 0) = .error .noFormat := by decide

-- A word of the opcode table: an IN word, an AX word, and one too wide for its format (log entry 9).
theorem test_decodeTableWord :
    decodeTableWord 40 0x200000672 = some (.sample false 1650) ∧
      decodeTableWord 8 0b01111 = some (.axElaLaser .az 0) ∧ decodeTableWord 40 (2 ^ 35) = none := by decide

-- DB8: selector words computed from the state.
theorem test_debSelector :
    debSelector (debouncing 2 true 0 2) true = 0b1110 ∧
      debSelector (debouncing 2 true 0 1) true = 0b1101 ∧
      debSelector (debouncing 1 true 0 1) true = 0b1111 ∧
      debSelector (debouncing 2 true 0 1) false = 0b1001 ∧
      debSelector (st 2) true = 0b0101 ∧ debSelector (st 0) true = 0b0111 := by decide

/-! ### One step -/

-- W7, first sample, by way of the word on the port: DEB_START_COMMIT and PA_RISE.
theorem test_step_withFetchWord :
    (stepped ((st 0).withFetchWord 40 0x3000003E8)).pa = ⟨1000⟩ ∧
      (stepped ((st 0).withFetchWord 40 0x3000003E8)).deb = ⟨.notDebouncing, true, 1000, true, 1000, 0⟩ := by decide

-- A table word of the AX format runs on the azimuth instance: A3.
theorem test_step_withFetchWord_ax :
    (stepped ((azIn 0).withFetchWord 8 0b00010)).az = ⟨2, 1000, 2000, 3000, 4000⟩ := by decide

-- R240; P5 step 2.
theorem test_reset :
    SameRegisters (after (.reset true true 101) (debouncing 1 true 100 1)) State.reset := ⟨rfl, rfl, rfl, rfl⟩

-- R91.
theorem test_idle : after (.idle true 0xFFFFFFFF) (azIn 3) = azIn 3 := rfl

-- PA3 with its router and axis sub-steps: a committed fall of width 650.
theorem test_sample_fall :
    (after (.sample false 1651) (debouncing 1 false 1650 1)).out.pulse =
        some ⟨1000, 650, PulseType.azSync⟩ ∧
      (after (.sample false 1651) (debouncing 1 false 1650 1)).az = ⟨1, 1000, 0, 0, 0⟩ := by decide

-- P1 step 12: the laser of the end-to-end example, with its payload 00 E8 A0.
theorem test_sample_event :
    (after (.sample false 4301)
        { ela 1000 0 with
          deb := ⟨.debouncing, true, 4000, false, 4300, 1⟩, pa := ⟨4000⟩ }).evtPayload .az =
      some 0x00E8A0 := by decide

-- DB1 to DB6. The operands of DEB_START and DEB_START_COMMIT are the sample's.
theorem test_debHold :
    (after (.debHold false true false 500) (debouncing 2 true 5 2)).deb = (debouncing 2 true 5 2).deb := by decide

theorem test_debStart :
    (after (.debStart true true 10) (st 2)).deb = ⟨.debouncing, false, 0, true, 10, 1⟩ := by decide

theorem test_debStartCommit :
    (after (.debStartCommit true true 10) (st 0)).deb = ⟨.notDebouncing, true, 10, true, 10, 0⟩ := by decide

theorem test_debDown :
    (after (.debDown false false 22) (debouncing 3 true 20 2)).deb.votes = 1 := by decide

theorem test_debAbort :
    (after (.debAbort false true 51) (debouncing 1 false 50 1)).deb =
      ⟨.notDebouncing, true, 7, false, 50, 0⟩ := by decide

theorem test_debUp :
    (after (.debUp true true 11) (debouncing 2 true 10 1)).deb.votes = 2 := by decide

theorem test_debCommit :
    (after (.debCommit false true 12) (debouncing 2 true 10 2)).deb =
        ⟨.notDebouncing, true, 10, true, 10, 0⟩ ∧
      (after (.debCommit false true 12) (debouncing 2 true 10 2)).out.debCommit = true := by decide

-- PA1, PA2, PA3, CL4.
theorem test_paNone :
    (after (.paNone true) (debouncing 2 true 10 2)).pulseValid = false := by decide

theorem test_paRise :
    (after .paRise { st 1 with deb := ⟨.notDebouncing, true, 1000, true, 0, 0⟩ }).pa = ⟨1000⟩ := by decide

theorem test_paFall :
    (after .paFall
        { st 1 with deb := ⟨.notDebouncing, false, 0x18A, false, 0, 0⟩, pa := ⟨0xFFFFFF00⟩ }).out.pulse =
      some ⟨0xFFFFFF00, 650, PulseType.azSync⟩ := by decide

-- The codes of R69 in the order of the bins of R76.
theorem test_clNone : (after (.clNone 7) (st 1)).pulseTypePort = some 0 := by decide

theorem test_clLaser : (after (.clLaser 7) (st 1)).pulseTypePort = some 1 := by decide

theorem test_clAzSyncD0 : (after (.clAzSyncD0 7) (st 1)).pulseTypePort = some 2 := by decide

theorem test_clAzSyncD1 : (after (.clAzSyncD1 7) (st 1)).pulseTypePort = some 2 := by decide

theorem test_clElSyncD0 : (after (.clElSyncD0 7) (st 1)).pulseTypePort = some 4 := by decide

theorem test_clElSyncD1 : (after (.clElSyncD1 7) (st 1)).pulseTypePort = some 4 := by decide

theorem test_clAzSkipD0 : (after (.clAzSkipD0 7) (st 1)).pulseTypePort = some 3 := by decide

theorem test_clAzSkipD1 : (after (.clAzSkipD1 7) (st 1)).pulseTypePort = some 3 := by decide

theorem test_clElSkipD0 : (after (.clElSkipD0 7) (st 1)).pulseTypePort = some 5 := by decide

theorem test_clElSkipD1 : (after (.clElSkipD1 7) (st 1)).pulseTypePort = some 5 := by decide

theorem test_clNone_signals :
    (after (.clNone 50) (st 1)).out.conditions = [.unclassifiablePulse 50] := by decide

-- CL1: the boundaries of the reference bins.
theorem test_classify_boundaries :
    ([0, 100, 101, 584, 585, 586, 674, 675, 780, 781, 884, 885, 988, 989, 1082, 1083, 1199, 1200, 1299, 1300, 1399, 1400, 4294967295].map fun w =>
        classify (Config.ref 1) 0 (BitVec.ofNat 32 w)) =
      [0, 0, 1, 1, 0, 2, 2, 4, 4, 2, 2, 4, 4, 3, 3, 5, 5, 3, 3, 5, 5, 0, 0] := by decide

-- CL3.
theorem test_classify_bias :
    ([110, 111, 594, 595, 596, 684, 685].map fun w =>
        classify { Config.ref 1 with widthBias := 10 } 0 (BitVec.ofNat 32 w)) =
      [0, 1, 1, 0, 2, 2, 4] := by decide

-- RT1 to RT6.
theorem test_rtInvalid : (after .rtInvalid (st 1)).out.route = none := by decide

theorem test_rtLaser : (after .rtLaser (st 1)).out.route = some (.laser, .laser) := by decide

theorem test_rtAzSync : (after .rtAzSync (st 1)).out.route = some (.sync, .other) := by decide

theorem test_rtAzSkip : (after .rtAzSkip (st 1)).out.route = some (.skip, .other) := by decide

theorem test_rtElSync : (after .rtElSync (st 1)).out.route = some (.other, .sync) := by decide

theorem test_rtElSkip : (after .rtElSkip (st 1)).out.route = some (.other, .skip) := by decide

theorem test_rtRsvd : (after (.rtRsvd true) (after .rtLaser (st 1))).out.route = none := by decide

-- A1 to A20, the azimuth registers after each.
theorem test_axIdleOther :
    (after (.axIdleOther .az 6000) (azIn 0)).az = ⟨0, 1000, 2000, 3000, 4000⟩ ∧
      (after (.axIdleOther .az 6000) (azIn 0)).out = Outputs.quiet := by decide

theorem test_axIdleSync :
    (after (.axIdleSync .az 6000) (azIn 0)).az = ⟨1, 6000, 2000, 3000, 4000⟩ ∧
      (after (.axIdleSync .az 6000) (azIn 0)).out = Outputs.quiet := by decide

theorem test_axIdleSkip :
    (after (.axIdleSkip .az 6000) (azIn 0)).az = ⟨2, 1000, 2000, 3000, 4000⟩ ∧
      (after (.axIdleSkip .az 6000) (azIn 0)).out = Outputs.quiet := by decide

theorem test_axIdleLaser :
    (after (.axIdleLaser .az 6000) (azIn 0)).az = ⟨0, 1000, 2000, 3000, 4000⟩ ∧
      (after (.axIdleLaser .az 6000) (azIn 0)).out = Outputs.quiet := by decide

theorem test_axWsaOther :
    (after (.axWsaOther .az 6000) (azIn 1)).az = ⟨0, 1000, 2000, 3000, 4000⟩ ∧
      (after (.axWsaOther .az 6000) (azIn 1)).out.conditions =
        [.sequenceViolation .az 1] := by decide

theorem test_axWsaSync :
    (after (.axWsaSync .az 6000) (azIn 1)).az = ⟨1, 6000, 2000, 3000, 4000⟩ ∧
      (after (.axWsaSync .az 6000) (azIn 1)).out = Outputs.quiet := by decide

theorem test_axWsaSkip :
    (after (.axWsaSkip .az 6000) (azIn 1)).az = ⟨3, 1000, 2000, 3000, 4000⟩ ∧
      (after (.axWsaSkip .az 6000) (azIn 1)).out = Outputs.quiet := by decide

theorem test_axWsaLaser :
    (after (.axWsaLaser .az 6000) (azIn 1)).az = ⟨0, 1000, 2000, 3000, 4000⟩ ∧
      (after (.axWsaLaser .az 6000) (azIn 1)).out.conditions =
        [.sequenceViolation .az 1] := by decide

theorem test_axSbsOther :
    (after (.axSbsOther .az 6000) (azIn 2)).az = ⟨0, 1000, 2000, 3000, 4000⟩ ∧
      (after (.axSbsOther .az 6000) (azIn 2)).out.conditions =
        [.sequenceViolation .az 2] := by decide

theorem test_axSbsSync :
    (after (.axSbsSync .az 6000) (azIn 2)).az = ⟨4, 1000, 6000, 3000, 4000⟩ ∧
      (after (.axSbsSync .az 6000) (azIn 2)).out = Outputs.quiet := by decide

theorem test_axSbsSkip :
    (after (.axSbsSkip .az 6000) (azIn 2)).az = ⟨2, 1000, 2000, 3000, 4000⟩ ∧
      (after (.axSbsSkip .az 6000) (azIn 2)).out = Outputs.quiet := by decide

theorem test_axSbsLaser :
    (after (.axSbsLaser .az 6000) (azIn 2)).az = ⟨0, 1000, 2000, 3000, 4000⟩ ∧
      (after (.axSbsLaser .az 6000) (azIn 2)).out.conditions =
        [.sequenceViolation .az 2] := by decide

theorem test_axElaOther :
    (after (.axElaOther .az 6000) (azIn 3)).az = ⟨0, 1000, 2000, 3000, 4000⟩ ∧
      (after (.axElaOther .az 6000) (azIn 3)).out.conditions =
        [.sequenceViolation .az 3] := by decide

theorem test_axElaSync :
    (after (.axElaSync .az 6000) (azIn 3)).az = ⟨1, 6000, 2000, 3000, 4000⟩ ∧
      (after (.axElaSync .az 6000) (azIn 3)).out = Outputs.quiet := by decide

theorem test_axElaSkip :
    (after (.axElaSkip .az 6000) (azIn 3)).az = ⟨2, 1000, 2000, 3000, 4000⟩ ∧
      (after (.axElaSkip .az 6000) (azIn 3)).out = Outputs.quiet := by decide

theorem test_axElaLaser :
    (after (.axElaLaser .az 6000) (azIn 3)).az = ⟨0, 1000, 2000, 5000, 4000⟩ ∧
      (after (.axElaLaser .az 6000) (azIn 3)).out.events = [⟨.az, .a, 1000, 6000⟩] := by decide

theorem test_axElbOther :
    (after (.axElbOther .az 6000) (azIn 4)).az = ⟨0, 1000, 2000, 3000, 4000⟩ ∧
      (after (.axElbOther .az 6000) (azIn 4)).out.conditions =
        [.sequenceViolation .az 4] := by decide

theorem test_axElbSync :
    (after (.axElbSync .az 6000) (azIn 4)).az = ⟨1, 6000, 2000, 3000, 4000⟩ ∧
      (after (.axElbSync .az 6000) (azIn 4)).out = Outputs.quiet := by decide

theorem test_axElbSkip :
    (after (.axElbSkip .az 6000) (azIn 4)).az = ⟨2, 1000, 2000, 3000, 4000⟩ ∧
      (after (.axElbSkip .az 6000) (azIn 4)).out = Outputs.quiet := by decide

theorem test_axElbLaser :
    (after (.axElbLaser .az 6000) (azIn 4)).az = ⟨0, 1000, 2000, 3000, 4000⟩ ∧
      (after (.axElbLaser .az 6000) (azIn 4)).out.events = [⟨.az, .b, 2000, 6000⟩] := by decide

-- R182.
theorem test_axRsvd5 :
    (after (.axRsvd5 3 .az 6000) (azIn 5)).az = ⟨0, 1000, 2000, 3000, 4000⟩ := by decide

theorem test_axRsvd67 :
    (after (.axRsvd67 true 3 .el 6000) { azIn 7 with el := ⟨7, 1, 2, 3, 4⟩ }).el = ⟨0, 1, 2, 3, 4⟩ ∧
      (after (.axRsvd67 false 0 .az 6000) (azIn 6)).az.state = 0 := by decide

-- E1, E2: 4629 is accepted, 4630 rejected, and the last delta is updated in both.
theorem test_axElaLaser_strict :
    (after (.axElaLaser .az 8629) (ela 1000 3000)).out.events = [⟨.az, .a, 1000, 8629⟩] ∧
      (after (.axElaLaser .az 8630) (ela 1000 3000)).out.conditions =
        [.noiseRejection .az .a 7630 3000] ∧
      (after (.axElaLaser .az 8630) (ela 1000 3000)).az.lastA = 7630 := by decide

-- E9: the comparison is of naturals, not of signed words. E10: lighthouse B.
theorem test_eval_unsigned : (after (.axElaLaser .az 0) (ela 1 1)).out.events = [] := by decide

theorem test_axElbLaser_first :
    (after (.axElbLaser .az 9000) { st 1 with az := ⟨4, 1000, 2000, 3000, 0⟩ }).az =
      ⟨0, 1000, 2000, 3000, 7000⟩ := by decide

-- E11 and E12: the other values of the two parameters of the deviation filter.
theorem test_eval_first_not_accepted :
    evalAccepts { cfgOf (Config.ref 2) 4630 with firstDeltaAccept := false } 3000 0 = false ∧
      evalAccepts (cfgOf (Config.ref 2) 1) 3000 3000 = true ∧
      evalAccepts (cfgOf (Config.ref 2) 1) 3000 3001 = false := by decide

-- EM1 to EM6.
theorem test_emitAzA :
    (after (.emitAzA ⟨.az, .a, 1000, 4000⟩) (st 1)).evtPayload .az = some 0x00E8A0 ∧
      (after (.emitAzA ⟨.az, .a, 0xFFFFFFFF, 0⟩) (st 1)).evtPayload .az = some 0x00FF00 := by decide

theorem test_emitAzB :
    (after (.emitAzB ⟨.az, .b, 2000, 6000⟩) (st 1)).evtPayload .az = some 0x00D070 := by decide

theorem test_emitElA :
    (after (.emitElA ⟨.el, .a, 1000, 4000⟩) (st 1)).evtPayload .el = some 0x00E8A0 := by decide

theorem test_emitElB :
    (after (.emitElB ⟨.el, .b, 14000, 50000⟩) (st 1)).evtPayload .el = some 0x00B050 ∧
      (after (.emitElB ⟨.el, .b, 0x12345678, 0x9ABCDEF0⟩) (st 1)).evtPayload .el = some 0x0078F0 := by decide

-- RT7.
theorem test_one_axis_out_of_idle :
    (presentPulse PulseType.elSkip 6000 (azIn 3)).az.state = 0 ∧
      (presentPulse PulseType.elSkip 6000 (azIn 3)).el.state = 2 := by decide

-- DG1 and DG5, and DG1 with the default setting.
theorem test_diagnostics :
    ({ after (.axWsaOther .az 5000) (azIn 1) with cfg := refCfg 1 true } : State).diagCode = 2 ∧
      ({ after (.axIdleOther .az 5000) (azIn 0) with cfg := refCfg 1 true } : State).diagValid = false ∧
      (after (.axWsaOther .az 5000) (azIn 1)).diagValid = false := by decide

-- R20: the widths of vote counters that count to 1, 2, 3 and 4.
theorem test_voteWidth :
    [1, 2, 3, 4].map (fun n => voteWidth (Config.ref n)) = [1, 2, 2, 3] := by decide

-- R84 with `N = 2`: the four words of P4's PULSE @1000 +650.
theorem test_stimPulse :
    stimPulse (Config.ref 2) 1000 650 =
      [.inp 0x3000003E8, .inp 0x3000003E9, .inp 0x200000672, .inp 0x200000673] := by decide

-- The records of R67 to R72 as bits.
theorem test_records :
    edgeSampleBits true 1000 = 0x1000003E8 ∧ pulseBits ⟨1000, 650, 2⟩ = 0x20000028A000003E8 ∧
      eventBits ⟨.el, .a, 1, 2⟩ = 0x20000000100000002 := by decide
/-! ### Witnesses: the hypotheses of each statement are met together

Where a statement has several clauses, each is met, at the edges of its range. -/

/-- A legal state in the middle of a debounce, with ExpectLaserA on one axis and a sample presented. -/
def mid : State :=
  { debouncing 2 true 10 1 with
    az := ⟨3, 1000, 0, 0, 0⟩, input := [stimSample true 11, stimIdle, stimReset] }

/-- A state in which the next low sample commits the fall of a pulse of the given width. -/
def falling (width : Tick) : State :=
  { debouncing 1 false (1000 + width) 1 with az := ⟨3, 400, 0, 0, 0⟩ }

theorem mid_legal : Legal mid :=
  ⟨by decide, by decide, by decide, by decide, by decide, by decide⟩

theorem mid_onlyTransactions : OnlyTransactions mid := by
  intro w h
  simp only [mid, List.mem_cons, List.not_mem_nil, or_false] at h
  rcases h with rfl | rfl | rfl <;> rfl

theorem falling_legal : Legal (falling 300) :=
  ⟨by decide, by decide, by decide, by decide, by decide, by decide⟩

theorem witness_DecodeOfEncode :
    Instr.WellFormed (.emitElB ⟨.el, .b, 1, 2⟩) = true ∧
      Instr.WellFormed (.axRsvd67 true 3 .el 7) = true := by decide

theorem witness_EncodeOfDecode :
    decode (.deb 0b1011 true 9) = .ok (.debAbort true true 9) ∧
      decode (.cl 0b1001 1399) = .ok (.clElSkipD1 1399) := by decide

theorem witness_OnlyReservedWordsAreRejected :
    decode (.cl 0b1001 0) = .ok (.clElSkipD1 0) ∧
      decode (.cl 0b1010 0) = .error (.clSelectorReserved 10) ∧
      decode (.unformatted 0 0) = .error .noFormat := by decide

theorem witness_StepRunsDecodedInstruction :
    mid.input = stimSample true 11 :: [stimIdle, stimReset] ∧
      decode (stimSample true 11) = .ok (.sample true 11) := by decide

theorem witness_StepWithNothingPresentedIsIdle : State.reset.input = [] := rfl

theorem witness_StepRefusesReservedWords :
    ((st 1).presenting [.cl 15 0]).input = .cl 15 0 :: [] ∧
      decode (.cl 15 0) = .error (.clSelectorReserved 15) := by decide

theorem witness_TransactionsNeverStop : OnlyTransactions mid ∧ mid.input ≠ [] :=
  ⟨mid_onlyTransactions, by decide⟩

theorem witness_ResetWritesEveryRegister :
    (mid.presenting [.inp (inWord true true true 101)]).input =
      .inp (inWord true true true 101) :: [] := rfl

theorem witness_StepKeepsLegal :
    Legal mid ∧ OnlyTransactions mid ∧ step mid = .next (stepped mid) :=
  ⟨mid_legal, mid_onlyTransactions, rfl⟩

/-- The counter one below its top, whose width is 2: `DEB_THRESH` is 3. -/
theorem witness_OperationsKeepVotesFit :
    VotesFit (debouncing 2 true 10 3) ∧
      exec (.debUp true true 11) (debouncing 2 true 10 3) =
        .next (after (.debUp true true 11) (debouncing 2 true 10 3)) :=
  ⟨by unfold VotesFit; decide, rfl⟩

theorem witness_VoteWidthIsSmallest :
    1 ≤ voteWidth (Config.ref 4) ∧ (Config.ref 4).debThresh < 2 ^ voteWidth (Config.ref 4) := by
  decide

theorem witness_DebOperationsComplete :
    (debouncing 2 true 10 1).deb.votes + 1 < (debouncing 2 true 10 1).cfg.debThresh ∧
      2 ≤ (debouncing 2 true 10 2).deb.votes := by decide

theorem witness_SampleHoldsOrStarts :
    (st 1).deb.mode = .notDebouncing ∧ false = (st 1).deb.stable ∧ true ≠ (st 1).deb.stable ∧
      2 ≤ (st 1).cfg.debThresh := by decide

/-- The three clauses: one vote short of the last but one, two votes, one vote and none. -/
theorem witness_SampleMovesVotesOrAborts :
    ((debouncing 2 true 10 1).deb.mode = .debouncing ∧
        true = (debouncing 2 true 10 1).deb.target ∧
        (debouncing 2 true 10 1).deb.votes + 1 < (debouncing 2 true 10 1).cfg.debThresh) ∧
      (false ≠ (debouncing 2 true 10 2).deb.target ∧ 2 ≤ (debouncing 2 true 10 2).deb.votes) ∧
      (debouncing 2 true 10 1).deb.votes ≤ 1 ∧ (debouncing 2 true 10 0).deb.votes ≤ 1 := by decide

theorem witness_GlitchIsRejected :
    (st 1).deb.mode = .notDebouncing ∧ true ≠ (st 1).deb.stable ∧ 2 ≤ (st 1).cfg.debThresh ∧
      ((st 1).presenting [stimSample true 10, stimSample false 11]).input =
        stimSample true 10 :: stimSample (st 1).deb.stable 11 :: [] := by decide

/-- Thresholds of 1 and of 3; with 3, `k` can be 1 and 2. -/
theorem witness_ThresholdSamplesCommitOnce :
    (([] : List Tick).length + 1 = (st 0).cfg.debThresh ∧
        ((st 0).presenting [stimSample true 10]).input = [10].map (stimSample true)) ∧
      ([11, 12] : List Tick).length + 1 = (st 2).cfg.debThresh ∧
      ((st 2).presenting (stimRun true 10 3)).input = [10, 11, 12].map (stimSample true) ∧
      (st 2).deb.mode = .notDebouncing ∧ true ≠ (st 2).deb.stable := by decide

theorem witness_HysteresisSurvivesVotesMinusOne :
    (debouncing 2 true 10 2).deb.mode = .debouncing ∧ 1 ≤ (debouncing 2 true 10 2).deb.votes ∧
      ([12, 13] : List Tick).length = (debouncing 2 true 10 2).deb.votes ∧
      ((debouncing 2 true 10 2).presenting (stimRun false 12 2)).input =
        [12, 13].map (stimSample !(debouncing 2 true 10 2).deb.target) := by decide

theorem witness_AlternatingSamplesNeverCommit :
    (debouncing 2 true 10 1).deb.mode = .debouncing ∧ 1 ≤ (debouncing 2 true 10 1).deb.votes ∧
      (debouncing 2 true 10 1).deb.votes + 1 < (debouncing 2 true 10 1).cfg.debThresh ∧
      ((debouncing 2 true 10 1).presenting [stimSample true 11, stimSample false 12]).input =
        [((11 : Tick), (12 : Tick))].flatMap
          (fun p => [stimSample (debouncing 2 true 10 1).deb.target p.1,
            stimSample (!(debouncing 2 true 10 1).deb.target) p.2]) := by decide

/-- A step that commits and one that does not. -/
theorem witness_CommitFlipsStable :
    Legal mid ∧ (after (.sample true 11) mid).out.debCommit = false ∧
      Legal (falling 300) ∧ (after (.sample false 9) (falling 300)).out.debCommit = true :=
  ⟨mid_legal, by decide, falling_legal, by decide⟩

theorem witness_SampleCommitsRise :
    (debouncing 1 true 10 1).deb.mode = .debouncing ∧
      true = (debouncing 1 true 10 1).deb.target ∧
      (debouncing 1 true 10 1).cfg.debThresh ≤ (debouncing 1 true 10 1).deb.votes + 1 := by decide

theorem witness_ThresholdOneCommitsAtOnce :
    (st 0).deb.mode = .notDebouncing ∧ true ≠ (st 0).deb.stable ∧ (st 0).cfg.debThresh = 1 := by
  decide

theorem witness_SampleFallPutsOutPulse :
    (falling 300).deb.mode = .debouncing ∧ false = (falling 300).deb.target ∧
      (falling 300).cfg.debThresh ≤ (falling 300).deb.votes + 1 ∧
      (falling 300).deb.target = false := by decide

theorem witness_InvalidPulseReachesNoAxis :
    exec (.sample false 9) (falling 585) = .next (after (.sample false 9) (falling 585)) ∧
      (after (.sample false 9) (falling 585)).out.pulse = some ⟨1000, 585, PulseType.invalid⟩ :=
  ⟨rfl, by decide⟩

/-- A step that commits nothing, one that commits a rise, one that commits a fall. -/
theorem witness_OnlyFallsReachTheAxes :
    (after (.sample true 11) mid).out.debCommit = false ∧
      ((after (.sample true 11) (debouncing 1 true 10 1)).out.debCommit = true ∧
        (after (.sample true 11) (debouncing 1 true 10 1)).deb.stable = true) ∧
      (after (.sample false 9) (falling 300)).out.debCommit = true ∧
      (after (.sample false 9) (falling 300)).deb.stable = false := by decide

/-- The two edges of bin 1, and CL5's overlap of bins 2 and 4. -/
theorem witness_BinsAreDisjoint :
    ((refCfg 1 false).bin 1 = some ⟨101, 585⟩ ∧ inBin ⟨101, 585⟩ 0 101 = true ∧
        inBin ⟨101, 585⟩ 0 584 = true ∧ inBin ⟨101, 585⟩ 0 585 = false) ∧
      (cfgOf { Config.ref 2 with azSyncD0 := ⟨586, 676⟩ } 4630).bin 2 = some ⟨586, 676⟩ ∧
      (cfgOf { Config.ref 2 with azSyncD0 := ⟨586, 676⟩ } 4630).bin 4 = some ⟨675, 781⟩ ∧
      inBin ⟨586, 676⟩ 0 675 = true ∧ inBin ⟨675, 781⟩ 0 675 = true := by decide

/-- A width in bin 9, at its last value, and a width in none. -/
theorem witness_BinIndexIsTheContainingBin :
    (refCfg 1 false).bin 9 = some ⟨1300, 1400⟩ ∧ binIndex (refCfg 1 false).toTunables 1399 = 9 ∧
      binIndex (refCfg 1 false).toTunables 1400 = 0 := by decide

/-- CL4: two pulses of width 650, one of them across the wrap. -/
theorem witness_ClassifyDependsOnWidthOnly :
    ((0x18A : Tick).toNat + 2 ^ 32 - (0xFFFFFF00 : Tick).toNat) % 2 ^ 32 =
      ((1650 : Tick).toNat + 2 ^ 32 - (1000 : Tick).toNat) % 2 ^ 32 := by decide

/-- A routed LASER pulse and a routed pulse of the other axis. -/
theorem witness_RoutedPulseLeavesOneActive :
    (after (.sample false 9) (falling 300)).out.route = some (.laser, .laser) ∧
      (after (.sample false 9) (falling 700)).out.route = some (.other, .sync) := by decide

/-- E1 and E2: differences of 4629 and 4630; and no last delta. -/
theorem witness_LasersEvaluate :
    (ela 1000 3000).az.lastA ≠ 0 ∧
      ((((8629 : Tick) - 1000).toNat : Int) - (3000 : Tick).toNat).natAbs <
        (ela 1000 3000).cfg.devThresh ∧
      ¬((((8630 : Tick) - 1000).toNat : Int) - (3000 : Tick).toNat).natAbs <
        (ela 1000 3000).cfg.devThresh ∧
      (ela 1000 0).az.lastA = 0 ∧ (ela 1000 0).cfg.firstDeltaAccept = true := by decide

theorem witness_AxesAreIndependent :
    Axis.el ≠ Axis.az ∧
      (after (.sample false 9) ((falling 300).setAxis .el ⟨4, 1, 2, 3, 4⟩)).event .az =
        some ⟨.az, .a, 400, 1000⟩ := by decide

/-- A step that changes `az.last_a`, and one that changes `az.last_b`. -/
theorem witness_LastDeltasChangeOnlyByLasers :
    (after (.sample false 9) (falling 300)).az.lastA ≠ (falling 300).az.lastA ∧
      (after (.sample false 9) ((falling 300).setAxis .az ⟨4, 0, 1, 0, 0⟩)).az.lastB ≠ 0 := by
  decide

/-- A skip that enters ExpectLaserA on `az`, and a sync that enters ExpectLaserB on `el`. -/
theorem witness_ExpectStatesHaveOneEntry :
    ((after (.sample false 9) ((falling 1070).setAxis .az ⟨1, 1, 2, 3, 4⟩)).az.state =
        AxisState.expectLaserA ∧ (1 : AxisState) ≠ AxisState.expectLaserA) ∧
      ((after (.sample false 9) ((falling 700).setAxis .el ⟨2, 1, 2, 3, 4⟩)).el.state =
        AxisState.expectLaserB ∧ (2 : AxisState) ≠ AxisState.expectLaserB) ∧
      (after (.sample false 9) ((falling 700).setAxis .el ⟨2, 1, 2, 3, 4⟩)).el.pendB ≠ 2 := by
  decide

theorem witness_SequenceAEmitsOneEvent :
    ((st 1).axis .el).state = AxisState.idle ∧ ((st 1).axis .el).lastA = 0 ∧
      (st 1).cfg.firstDeltaAccept = true ∧
      ((st 1).axis .az).state = AxisState.idle := by decide

theorem witness_SequenceBEmitsItsEvent :
    ((azIn 0).axis .az).state = AxisState.idle ∧ ((azIn 0).axis .el).state = AxisState.idle := by
  decide

/-- W5: the second delta off by 4630 exactly. -/
theorem witness_DeviatingDeltaIsSuppressed :
    ((azIn 0).axis .az).state = AxisState.idle ∧ ((azIn 0).axis .el).state = AxisState.idle ∧
      ((azIn 0).axis .az).lastA ≠ 0 ∧
      (azIn 0).cfg.devThresh =
        ((((108630 : Tick) - 101000).toNat : Int) - ((azIn 0).axis .az).lastA.toNat).natAbs := by
  decide

/-- A step that emits on `az`. -/
theorem witness_EveryEventHasItsPayload :
    exec (.sample false 9) (falling 300) = .next (after (.sample false 9) (falling 300)) ∧
      (after (.sample false 9) (falling 300)).event .az = some ⟨.az, .a, 400, 1000⟩ :=
  ⟨rfl, by decide⟩

/-- A step, from a state that no run reaches, that emits on both instances. -/
theorem witness_AzimuthEventIsFirst :
    (after (.sample false 9) ((falling 300).setAxis .el ⟨4, 0, 500, 0, 0⟩)).out.events =
      [⟨.az, .a, 400, 1000⟩, ⟨.el, .b, 500, 1000⟩] := by decide

/-- A legal state and a step that emits one event. -/
theorem witness_AtMostOneEventFromLegal :
    Legal (falling 300) ∧ (after (.sample false 9) (falling 300)).out.events.length = 1 :=
  ⟨falling_legal, by decide⟩

/-- DG4: a rejected laser with the diagnostics on. -/
theorem witness_DiagnosticOutputs :
    (refCfg 1 true).debugState = true ∧
      (after (.axElbLaser .el 391259)
          { st 1 with cfg := refCfg 1 true, el := ⟨4, 0, 346000, 0, 40629⟩ }).out.conditions =
        .noiseRejection .el .b 45259 40629 :: [] := by decide

theorem witness_TimeShiftEquivariance :
    exec (.sample false 9) (falling 300) = .next (after (.sample false 9) (falling 300)) := rfl

/-- A low line and `PULSE @1000 +650`, for thresholds of 1 and of 2. -/
theorem witness_PulseStimulusMakesOnePulse :
    ((st 0).presenting (stimPulse (st 0).cfg.toTunables 1000 650)).input =
        [stimSample true 1000, stimSample false 1650] ∧
      ((st 1).presenting (stimPulse (st 1).cfg.toTunables 1000 650)).input =
        [stimSample true 1000, stimSample true 1001, stimSample false 1650,
          stimSample false 1651] ∧
      (st 1).deb.mode = .notDebouncing ∧ (st 1).deb.stable = false := by decide

end Sys2Proof.Tests
end

section
/-!
SUPPORT. 00_scope.md: what no operation touches (the configuration, the words to come), that
`DEBUG_STATE` is read by no step, that time is seen through differences only, and the step itself.
-/

namespace Sys2Proof.Machine

/-! ### Rules over all operations

The 56 constructors of `Instr` share a few state transformers. A property of state transformers that
holds of these holds of every operation. -/

/-- What a property of state transformers has to be shown for, so that every operation has it. -/
structure OperationRules (P : (State → State) → Prop) : Prop where
  reset : P fun s => resetRegisters s.beginStep
  idle : P State.beginStep
  sample : ∀ level ts, P fun s => sampleChain level ts s.beginStep
  setDeb : ∀ (d : Tunables → Deb → Deb) (c : Bool), P fun s => s.setDeb (d s.cfg.toTunables s.deb) c
  paNone : P paNone
  paFall : P paFall
  paRise : P paRise
  clNone : ∀ width, P (clNone width)
  setPulseType : ∀ type, P fun s => s.setPulseType type
  setRoute : ∀ r, P fun s => s.setRoute r
  axisGoto : ∀ x st, P fun s => s.axisGoto x st
  violate : ∀ x st, P fun s => s.violate x st
  recordA : ∀ x ts st, P fun s => s.recordA x ts st
  recordB : ∀ x ts st, P fun s => s.recordB x ts st
  evaluate : ∀ x l ts, P fun s => (s.eval x l ts).axisGoto x AxisState.idle
  emitPayload : ∀ e, P fun s => s.emitPayload e

/-- Every operation answers a next state, by a state transformer that has the property. -/
theorem OperationRules.exec_eq_next {P : (State → State) → Prop} (h : OperationRules P)
    (i : Instr) :
    ∃ f, P f ∧ ∀ s, exec i s = .next (f s) := by
  cases i with
  | reset => exact ⟨_, h.reset, fun _ => rfl⟩
  | idle => exact ⟨_, h.idle, fun _ => rfl⟩
  | sample level ts => exact ⟨_, h.sample level ts, fun _ => rfl⟩
  | debHold => exact ⟨_, h.setDeb (fun _ r => r) false, fun _ => rfl⟩
  | debStart _ level ts =>
    exact ⟨_, h.setDeb (fun _ r =>
      { r with candTs := ts, target := level, votes := 1, mode := .debouncing }) false,
      fun _ => rfl⟩
  | debStartCommit _ level ts =>
    exact ⟨_, h.setDeb (fun _ _ => ⟨.notDebouncing, level, ts, level, ts, 0⟩) true, fun _ => rfl⟩
  | debDown =>
    exact ⟨_, h.setDeb (fun t r => { r with votes := votesDown t r.votes }) false, fun _ => rfl⟩
  | debAbort =>
    exact ⟨_, h.setDeb (fun _ r => { r with votes := 0, mode := .notDebouncing }) false,
      fun _ => rfl⟩
  | debUp =>
    exact ⟨_, h.setDeb (fun t r => { r with votes := votesUp t r.votes }) false, fun _ => rfl⟩
  | debCommit =>
    exact ⟨_, h.setDeb (fun _ r =>
      { r with stable := r.target, ts := r.candTs, votes := 0, mode := .notDebouncing }) true,
      fun _ => rfl⟩
  | paNone => exact ⟨_, h.paNone, fun _ => rfl⟩
  | paFall => exact ⟨_, h.paFall, fun _ => rfl⟩
  | paRise => exact ⟨_, h.paRise, fun _ => rfl⟩
  | clNone width => exact ⟨_, h.clNone width, fun _ => rfl⟩
  | clLaser | clAzSyncD0 | clAzSyncD1 | clElSyncD0 | clElSyncD1 | clAzSkipD0 | clAzSkipD1
  | clElSkipD0 | clElSkipD1 => exact ⟨_, h.setPulseType _, fun _ => rfl⟩
  | rtInvalid | rtLaser | rtAzSync | rtAzSkip | rtElSync | rtElSkip | rtRsvd =>
    exact ⟨_, h.setRoute _, fun _ => rfl⟩
  | axIdleOther | axIdleSkip | axIdleLaser | axWsaSkip | axSbsSkip | axElaSkip | axElbSkip
  | axRsvd5 | axRsvd67 => exact ⟨_, h.axisGoto _ _, fun _ => rfl⟩
  | axWsaOther | axWsaLaser | axSbsOther | axSbsLaser | axElaOther | axElbOther =>
    exact ⟨_, h.violate _ _, fun _ => rfl⟩
  | axIdleSync | axWsaSync | axElaSync | axElbSync => exact ⟨_, h.recordA _ _ _, fun _ => rfl⟩
  | axSbsSync => exact ⟨_, h.recordB _ _ _, fun _ => rfl⟩
  | axElaLaser | axElbLaser => exact ⟨_, h.evaluate _ _ _, fun _ => rfl⟩
  | emitAzA | emitAzB | emitElA | emitElB => exact ⟨_, h.emitPayload _, fun _ => rfl⟩

/-! ### `DEBUG_STATE` (R9, R225) -/

/-- The transformer makes of states that differ in `DEBUG_STATE` alone such states again. -/
def IgnoresDebug (f : State → State) : Prop :=
  ∀ (s : State) (b : Bool), f (s.setDebug b) = (f s).setDebug b

theorem debounce_ignoresDebug (level : Bool) (ts : Tick) : IgnoresDebug (debounce level ts) := by
  intro s b
  rw [debounce_eq, debounce_eq]
  rfl

theorem runClassifier_ignoresDebug (width : Tick) : IgnoresDebug (runClassifier width) := by
  intro s b
  have hbin : binIndex (s.setDebug b).cfg.toTunables width = binIndex s.cfg.toTunables width := rfl
  rw [runClassifier_eq, runClassifier_eq, hbin]
  split <;> rfl

theorem paFall_ignoresDebug : IgnoresDebug paFall := by
  intro s b
  have hcl := runClassifier_ignoresDebug (pulseWidth s.pa.riseTs s.deb.ts) s b
  rw [paFall_eq, paFall_eq, setDebug_pa, setDebug_deb, hcl]
  rfl

theorem assemble_ignoresDebug : IgnoresDebug assemble := by
  intro s b
  unfold assemble
  rw [setDebug_out, setDebug_deb, paFall_ignoresDebug s b]
  split_ifs <;> rfl

/-- EVAL reads `DEV_THRESH` and `FIRST_DELTA_ACCEPT` of the configuration (R161). -/
theorem evaluate_ignoresDebug (x : Axis) (l : Lighthouse) (ts : Tick) :
    IgnoresDebug fun s => (s.eval x l ts).axisGoto x AxisState.idle := by
  intro s b
  simp only [eval_axisGoto_idle]
  cases x <;> rfl

theorem axisStep_ignoresDebug (x : Axis) (cls : PulseClass) (ts : Tick) :
    IgnoresDebug (axisStep x cls ts) := by
  intro s b
  have heff : axisEffect (s.setDebug b).cfg.toCfg x cls ts (s.axis x) =
      axisEffect s.cfg.toCfg x cls ts (s.axis x) := rfl
  rw [axisStep_eq, axisStep_eq, setDebug_axis, heff]
  cases x <;> rfl

theorem routePulse_ignoresDebug (type : PulseType) (rise : Tick) :
    IgnoresDebug (routePulse type rise) := by
  intro s b
  have hroute : (s.setDebug b).setRoute (routeClasses type) =
      (s.setRoute (routeClasses type)).setDebug b := rfl
  unfold routePulse
  simp only [route_eq, hroute, setDebug_out, setRoute_out_route]
  cases routeClasses type with
  | none => rfl
  | some p =>
    simp only [axisStep_ignoresDebug .az p.1 rise _ b, axisStep_ignoresDebug .el p.2 rise _ b]

theorem deliver_ignoresDebug (p : Option Pulse) : IgnoresDebug (deliver p) := by
  intro s b
  cases p with
  | none => rfl
  | some p => exact routePulse_ignoresDebug p.type p.rise s b

theorem emitPayload_ignoresDebug (e : Event) : IgnoresDebug fun s => s.emitPayload e := by
  intro s b
  obtain ⟨x, _, _, _⟩ := e
  cases x <;> rfl

theorem emitAll_ignoresDebug (es : List Event) : IgnoresDebug (emitAll es) := by
  intro s b
  induction es generalizing s with
  | nil => rfl
  | cons e es ih =>
    have hemit : emit e (s.setDebug b) = (emit e s).setDebug b := by
      rw [emit_eq, emit_eq]
      exact emitPayload_ignoresDebug e s b
    calc emitAll (e :: es) (s.setDebug b)
      _ = emitAll es ((emit e s).setDebug b) := congrArg (emitAll es) hemit
      _ = (emitAll (e :: es) s).setDebug b := ih (emit e s)

theorem sampleChain_ignoresDebug (level : Bool) (ts : Tick) :
    IgnoresDebug (sampleChain level ts) := by
  intro s b
  unfold sampleChain emitEvents
  simp only [debounce_ignoresDebug level ts s b, assemble_ignoresDebug _ b, setDebug_out,
    deliver_ignoresDebug _ _ b, emitAll_ignoresDebug _ _ b]

/-- No operation reads `DEBUG_STATE`. -/
theorem ignoresDebug_rules : OperationRules IgnoresDebug where
  reset _ _ := rfl
  idle _ _ := rfl
  sample level ts s b := sampleChain_ignoresDebug level ts s.beginStep b
  setDeb _ _ _ _ := rfl
  paNone _ _ := rfl
  paFall := paFall_ignoresDebug
  paRise _ _ := rfl
  clNone _ _ _ := rfl
  setPulseType _ _ _ := rfl
  setRoute _ _ _ := rfl
  axisGoto x _ _ _ := by cases x <;> rfl
  violate x _ _ _ := by cases x <;> rfl
  recordA x _ _ _ _ := by cases x <;> rfl
  recordB x _ _ _ _ := by cases x <;> rfl
  evaluate := evaluate_ignoresDebug
  emitPayload := emitPayload_ignoresDebug

theorem exec_setDebug (i : Instr) (s : State) (b : Bool) :
    exec i (s.setDebug b) = mapNext (fun t => t.setDebug b) (exec i s) := by
  obtain ⟨f, hf, hexec⟩ := ignoresDebug_rules.exec_eq_next i
  rw [hexec, hexec, hf s b]
  rfl

/-- Settles O57: the same word is fetched and decoded, and no operation reads `DEBUG_STATE`. -/
theorem diagnosticsDoNotInterfere : Obligations.DiagnosticsDoNotInterfere := by
  intro s b
  have hfetch : (s.setDebug b).fetch = s.fetch := rfl
  have hadvance : (s.setDebug b).advance = s.advance.setDebug b := rfl
  unfold step
  rw [hfetch, hadvance]
  cases decode s.fetch with
  | ok i => exact exec_setDebug i s.advance b
  | error why => rfl

/-! ### The configuration and the words to come (R37, R210) -/

/-- The transformer writes neither the configuration nor the words still to be presented. -/
def KeepsEnvironment (f : State → State) : Prop :=
  ∀ s : State, (f s).cfg = s.cfg ∧ (f s).input = s.input

theorem emitEvents_keepsEnvironment : KeepsEnvironment emitEvents := by
  intro s
  obtain ⟨pa, pe, h⟩ := emitEvents_frame s
  rw [h]
  exact ⟨rfl, rfl⟩

theorem routePulse_keepsEnvironment (type : PulseType) (rise : Tick) :
    KeepsEnvironment (routePulse type rise) := by
  intro s
  obtain ⟨-, h⟩ | ⟨a, b, -, h⟩ := routePulse_cases type rise s <;> rw [h] <;> exact ⟨rfl, rfl⟩

theorem sample_keepsEnvironment (level : Bool) (ts : Tick) :
    KeepsEnvironment fun s => sampleChain level ts s.beginStep := by
  intro s
  obtain ⟨d, -, h⟩ | ⟨d, -, -, h⟩ | ⟨d, -, -, h⟩ := sampleChain_cases level ts s
  · simp only [h, and_self]
  · simp only [h, and_self]
  · obtain ⟨hcfgE, hinE⟩ := emitEvents_keepsEnvironment
      (routePulse (classify s.cfg.toTunables s.pa.riseTs d.ts) s.pa.riseTs (s.withPulse d))
    obtain ⟨hcfgR, hinR⟩ := routePulse_keepsEnvironment
      (classify s.cfg.toTunables s.pa.riseTs d.ts) s.pa.riseTs (s.withPulse d)
    simp only [h]
    exact ⟨hcfgE.trans hcfgR, hinE.trans hinR⟩

theorem paFall_keepsEnvironment : KeepsEnvironment paFall := by
  intro s
  obtain ⟨cs, h, -⟩ := runClassifier_frame (pulseWidth s.pa.riseTs s.deb.ts) s
  rw [paFall_eq, h]
  exact ⟨rfl, rfl⟩

theorem evaluate_keepsEnvironment (x : Axis) (l : Lighthouse) (ts : Tick) :
    KeepsEnvironment fun s => (s.eval x l ts).axisGoto x AxisState.idle := by
  intro s
  simp only [eval_axisGoto_idle, setAxis_cfg, setAxis_input, and_self]

/-- No operation writes the configuration or the words to come. -/
theorem keepsEnvironment_rules : OperationRules KeepsEnvironment where
  reset _ := ⟨rfl, rfl⟩
  idle _ := ⟨rfl, rfl⟩
  sample := sample_keepsEnvironment
  setDeb _ _ _ := ⟨rfl, rfl⟩
  paNone _ := ⟨rfl, rfl⟩
  paFall := paFall_keepsEnvironment
  paRise _ := ⟨rfl, rfl⟩
  clNone _ _ := ⟨rfl, rfl⟩
  setPulseType _ _ := ⟨rfl, rfl⟩
  setRoute _ _ := ⟨rfl, rfl⟩
  axisGoto _ _ _ := ⟨setAxis_cfg _ _ _, setAxis_input _ _ _⟩
  violate _ _ _ := ⟨setAxis_cfg _ _ _, setAxis_input _ _ _⟩
  recordA _ _ _ _ := ⟨setAxis_cfg _ _ _, setAxis_input _ _ _⟩
  recordB _ _ _ _ := ⟨setAxis_cfg _ _ _, setAxis_input _ _ _⟩
  evaluate := evaluate_keepsEnvironment
  emitPayload _ _ := ⟨setPayload_cfg _ _ _, setPayload_input _ _ _⟩

/-- Settles O10: the operation's transformer keeps both fields. -/
theorem operationsCompleteAndKeepConfiguration :
    Obligations.OperationsCompleteAndKeepConfiguration := by
  intro i s
  obtain ⟨f, hf, hexec⟩ := keepsEnvironment_rules.exec_eq_next i
  exact ⟨f s, hexec s, hf s⟩

/-! ### The step (R16, R36) -/

/-- Settles O6: the word on the port is the head of the list. -/
theorem stepRunsDecodedInstruction : Obligations.StepRunsDecodedInstruction :=
  step_of_decode

/-- A step on a port word that decodes, the list of words empty or not. -/
theorem step_of_decode_fetch (s : State) (i : Instr) (hd : decode s.fetch = .ok i) :
    step s = exec i s.advance := by
  simp only [step, hd]

/-- Every input transaction is an operation (R66, R81). -/
theorem decode_of_isTransaction (w : PortWord) (hw : PortWord.isTransaction w = true) :
    ∃ i, decode w = .ok i := by
  cases w with
  | inp w => exact ⟨decodeIn w, rfl⟩
  | _ => exact absurd hw Bool.false_ne_true

/-- With only transactions to come the port holds one, and IDLE's with none left (log entry 2). -/
theorem fetch_isTransaction (s : State) (hs : OnlyTransactions s) :
    PortWord.isTransaction s.fetch = true := by
  unfold State.fetch
  cases hin : s.input with
  | nil => rfl
  | cons w rest => exact hs w (by simp [hin])

/-- Settles O9: the port's word decodes, and an operation neither stops nor presents a word. -/
theorem transactionsNeverStop : Obligations.TransactionsNeverStop := by
  intro s hs
  obtain ⟨i, hd⟩ := decode_of_isTransaction s.fetch (fetch_isTransaction s hs)
  obtain ⟨t, hexec, -, hinput⟩ := operationsCompleteAndKeepConfiguration i s.advance
  rw [advance_input] at hinput
  refine ⟨t, (step_of_decode_fetch s i hd).trans hexec, hinput, ?_⟩
  intro w hw
  rw [hinput] at hw
  exact hs w (List.mem_of_mem_tail hw)

/-- Settles O11: the registers of `State.reset`, and the three parameters the spec fixes. -/
theorem resetStateIsAllZero : Obligations.ResetStateIsAllZero :=
  ⟨rfl, rfl, rfl, rfl, rfl, rfl, rfl, rfl⟩

/-! ### The payload (R201 to R203) -/

/-- The shifted lighthouse bit and the axis bit have no bit in common (R201). -/
theorem payloadByte0_eq_zero (e : Event) : payloadByte0 e = 0 := by
  obtain ⟨x, l, _, _⟩ := e
  cases x <;> cases l <;> simp [payloadByte0, Axis.code, Lighthouse.code]

/-- The payload's bits, byte by byte from the lowest (R73, R204). -/
theorem payload_getLsbD (e : Event) (k : Nat) :
    (payload e).getLsbD k =
      if k < 8 then (payloadByte2 e).getLsbD k
      else if k - 8 < 8 then (payloadByte1 e).getLsbD (k - 8)
      else (payloadByte0 e).getLsbD (k - 8 - 8) := by
  refine (BitVec.getLsbD_append ..).trans ?_
  rw [BitVec.getLsbD_append]

theorem payload_byte0 (e : Event) : (payload e).extractLsb' 16 8 = payloadByte0 e := by
  ext i hi
  have hskip : ¬16 + i < 8 ∧ ¬16 + i - 8 < 8 ∧ 16 + i - 8 - 8 = i := by omega
  simp [payload_getLsbD, hskip, hi]

theorem payload_byte1 (e : Event) : (payload e).extractLsb' 8 8 = payloadByte1 e := by
  ext i hi
  simp [payload_getLsbD, hi]

theorem payload_byte2 (e : Event) : (payload e).extractLsb' 0 8 = payloadByte2 e := by
  ext i hi
  simp [payload_getLsbD, hi]

/-- Subtraction commutes with taking the low byte (R13). -/
theorem low8_sub32 (a b : Tick) : low8 a - low8 b = low8 (sub32 a b) := by
  unfold low8 sub32
  apply BitVec.eq_of_toNat_eq
  simp only [BitVec.toNat_sub, BitVec.extractLsb'_toNat, Nat.shiftRight_zero]
  omega

/-- Settles O52: the three bytes are the payload's bytes, and `low8` is a map modulo 256. -/
theorem payloadGivesDeltaModulo256 : Obligations.PayloadGivesDeltaModulo256 := by
  intro e
  rw [payload_byte0, payload_byte1, payload_byte2]
  exact ⟨payloadByte0_eq_zero e, rfl, rfl, low8_sub32 e.laser e.sync⟩

/-! ### Time (R13, R59, R247) -/

/-- An event whose timestamps are moved by `d` ticks. -/
def shiftEvent (d : Tick) (e : Event) : Event :=
  { e with sync := e.sync + d, laser := e.laser + d }

@[simp] theorem shiftEvent_axis (d : Tick) (e : Event) : (shiftEvent d e).axis = e.axis := rfl

/-- A difference of timestamps does not see a common move, across a wrap either. -/
@[simp] theorem sub32_add_right (a b d : Tick) : sub32 (a + d) (b + d) = sub32 a b := by
  unfold sub32
  bv_omega

@[simp] theorem shift_pend (r : AxisRegs) (d : Tick) (l : Lighthouse) :
    (r.shift d).pend l = r.pend l + d := by cases l <;> rfl

@[simp] theorem shift_last (r : AxisRegs) (d : Tick) (l : Lighthouse) :
    (r.shift d).last l = r.last l := by cases l <;> rfl

theorem classify_shift (t : Tunables) (rise fall d : Tick) :
    classify t (rise + d) (fall + d) = classify t rise fall := by
  simp only [classify, pulseWidth, sub32_add_right]

theorem debEffect_shift (t : Tunables) (level : Bool) (ts d : Tick) (r : Deb) :
    debEffect t level (ts + d) (r.shift d) =
      ((debEffect t level ts r).1.shift d, (debEffect t level ts r).2) := by
  obtain ⟨mode, _, _, _, _, _⟩ := r
  unfold debEffect Deb.shift
  cases mode <;> simp only <;> split_ifs <;> rfl

theorem evalEffect_shift (c : Cfg) (x : Axis) (l : Lighthouse) (ts d : Tick) (r : AxisRegs) :
    evalEffect c x l (ts + d) (r.shift d) =
      ((evalEffect c x l ts r).1.shift d, (evalEffect c x l ts r).2.1.map (shiftEvent d),
        (evalEffect c x l ts r).2.2) := by
  unfold evalEffect
  simp only [shift_pend, shift_last, sub32_add_right]
  cases evalAccepts c (sub32 ts (r.pend l)) (r.last l) <;> cases l <;> rfl

theorem axisEffect_shift (c : Cfg) (x : Axis) (cls : PulseClass) (ts d : Tick) (r : AxisRegs) :
    axisEffect c x cls (ts + d) (r.shift d) =
      ((axisEffect c x cls ts r).1.shift d, (axisEffect c x cls ts r).2.1.map (shiftEvent d),
        (axisEffect c x cls ts r).2.2) := by
  have hstate : (r.shift d).state = r.state := rfl
  unfold axisEffect
  simp only [hstate, evalEffect_shift]
  cases cls <;> simp only <;> split_ifs <;> rfl

/-- `t` is `s` with time moved by `d`, as far as the registers and the list of events go. -/
structure ShiftedBy (d : Tick) (s t : State) : Prop where
  cfg : t.cfg = s.cfg
  registers : SameRegisters t (s.shift d)
  events : t.out.events = s.out.events.map (shiftEvent d)

/-- States whose events differ by a move of time have events of the same axes. -/
theorem ShiftedBy.evtValid {d : Tick} {s t : State} (h : ShiftedBy d s t) (x : Axis) :
    t.evtValid x = s.evtValid x := by
  simp [State.evtValid, State.event, h.events, List.find?_map, Function.comp_def]

theorem emitEvents_shiftedBy {d : Tick} {s t : State} (h : ShiftedBy d s t) :
    ShiftedBy d (emitEvents s) (emitEvents t) := by
  obtain ⟨_, _, hs⟩ := emitEvents_frame s
  obtain ⟨_, _, ht⟩ := emitEvents_frame t
  rw [hs, ht]
  exact ⟨h.cfg, h.registers, h.events⟩

theorem routePulse_shiftedBy {d : Tick} {s t : State} (type : PulseType) (rise : Tick)
    (h : ShiftedBy d s t) :
    ShiftedBy d (routePulse type rise s) (routePulse type (rise + d) t) := by
  obtain ⟨hcfg, ⟨hdeb, hpa, haz, hel⟩, hevents⟩ := h
  obtain ⟨hnone, hs⟩ | ⟨a, b, hsome, hs⟩ := routePulse_cases type rise s
  · obtain ⟨-, ht⟩ | ⟨a, b, hsome, -⟩ := routePulse_cases type (rise + d) t
    · rw [hs, ht]
      exact ⟨hcfg, ⟨hdeb, hpa, haz, hel⟩, hevents⟩
    · simp [hnone] at hsome
  · obtain ⟨hnone, -⟩ | ⟨a', b', hsome', ht⟩ := routePulse_cases type (rise + d) t
    · simp [hnone] at hsome
    · obtain ⟨rfl, rfl⟩ : a = a' ∧ b = b' := by simpa [hsome] using hsome'
      rw [hs, ht]
      simp only [hcfg, haz, hel, hevents, shift_az, shift_el, axisEffect_shift]
      exact ⟨rfl, ⟨hdeb, hpa, rfl, rfl⟩, by simp⟩

theorem sampleChain_shiftedBy (s : State) (d : Tick) (level : Bool) (ts : Tick) :
    ShiftedBy d (sampleChain level ts s.beginStep)
      (sampleChain level (ts + d) (s.shift d).beginStep) := by
  have hdeb := debounce_eq level (ts + d) (s.shift d).beginStep
  simp only [beginStep_cfg, beginStep_deb, shift_cfg, shift_deb, debEffect_shift] at hdeb
  obtain ⟨r, heff, hs⟩ | ⟨r, heff, hr, hs⟩ | ⟨r, heff, hr, hs⟩ := sampleChain_cases level ts s <;>
    rw [heff] at hdeb <;> rw [hs]
  · rw [sampleChain_of_hold _ _ _ _ hdeb]
    exact ⟨rfl, ⟨rfl, rfl, rfl, rfl⟩, rfl⟩
  · rw [sampleChain_of_rise _ _ _ _ hdeb hr]
    exact ⟨rfl, ⟨rfl, rfl, rfl, rfl⟩, rfl⟩
  · have htype : classify s.cfg.toTunables (s.pa.riseTs + d) (r.shift d).ts =
        classify s.cfg.toTunables s.pa.riseTs r.ts := classify_shift _ _ _ _
    rw [sampleChain_of_fall _ _ _ _ hdeb hr, shift_cfg, shift_pa, htype]
    exact emitEvents_shiftedBy
      (routePulse_shiftedBy _ _ ⟨rfl, ⟨rfl, rfl, rfl, rfl⟩, rfl⟩)

/-- Settles O59: every sub-step of a SAMPLE reads timestamps through `sub32` or copies them. -/
theorem timeShiftEquivariance : Obligations.TimeShiftEquivariance := by
  intro s t d level ts ht
  cases ht
  have h := sampleChain_shiftedBy s d level ts
  exact ⟨_, rfl, h.registers, h.evtValid⟩

end Sys2Proof.Machine
end

section
/-!
SUPPORT. 10_state.md: the vote counter's width and that every operation keeps to it, what the reset
state satisfies, and what a SAMPLE does to one axis FSM: its registers and its event depend on the
route and on its own registers only.
-/

namespace Sys2Proof.Machine

/-! ### The width of the vote counter (R20) -/

/-- `VW` is at most every width of at least 1 that holds the threshold. -/
theorem voteWidth_le (t : Tunables) (w : Nat) (hw : 1 ≤ w) (ht : t.debThresh < 2 ^ w) :
    voteWidth t ≤ w := by
  unfold voteWidth
  refine max_le hw ?_
  split
  · exact Nat.zero_le w
  · next hne => exact (Nat.log2_lt hne).mpr ht

theorem one_le_voteWidth (t : Tunables) : 1 ≤ voteWidth t := le_max_left _ _

/-- The closed form of R20: both sides are the smallest width of at least 1 that holds the
threshold. -/
theorem voteWidth_eq_clog (t : Tunables) :
    voteWidth t = max 1 (Nat.clog 2 (t.debThresh + 1)) := by
  apply le_antisymm
  · refine voteWidth_le t _ (le_max_left _ _) ?_
    calc t.debThresh < 2 ^ Nat.clog 2 (t.debThresh + 1) := Nat.le_pow_clog (by decide) _
      _ ≤ _ := Nat.pow_le_pow_right (by decide) (le_max_right _ _)
  · exact max_le (one_le_voteWidth t) (Nat.clog_le_of_le_pow (debThresh_lt_voteWidth t))

/-- Settles O17: the threshold fits `VW` bits, and no width below does. -/
theorem voteWidthIsSmallest : Obligations.VoteWidthIsSmallest := fun t =>
  ⟨voteWidth_eq_clog t, debThresh_lt_voteWidth t, voteWidth_le t⟩

/-! ### The vote counter keeps to its width (R20, R26) -/

/-- One vote fits, since `VW` is at least 1. -/
theorem one_lt_two_pow_voteWidth (t : Tunables) : 1 < 2 ^ voteWidth t :=
  Nat.one_lt_two_pow (Nat.ne_of_gt (one_le_voteWidth t))

theorem votesUp_lt (t : Tunables) (v : Nat) : votesUp t v < 2 ^ voteWidth t :=
  Nat.mod_lt _ (Nat.two_pow_pos _)

theorem votesDown_lt (t : Tunables) (v : Nat) (h : v < 2 ^ voteWidth t) :
    votesDown t v < 2 ^ voteWidth t := by
  unfold votesDown
  split <;> omega

/-- Whichever operation R128 chooses, the counter still fits. -/
theorem debEffect_votes_lt (t : Tunables) (level : Bool) (ts : Tick) (d : Deb)
    (h : d.votes < 2 ^ voteWidth t) : (debEffect t level ts d).1.votes < 2 ^ voteWidth t := by
  have hzero := Nat.two_pow_pos (voteWidth t)
  unfold debEffect
  cases d.mode with
  | notDebouncing =>
    simp only
    split_ifs
    · exact h
    · exact one_lt_two_pow_voteWidth t
    · exact hzero
  | debouncing =>
    simp only
    split_ifs
    · exact hzero
    · exact votesUp_lt t d.votes
    · exact hzero
    · exact votesDown_lt t d.votes h

/-! ### Routes -/

/-- The class a route gives an axis FSM (R145). -/
def classFor (x : Axis) (p : PulseClass × PulseClass) : PulseClass :=
  match x with
  | .az => p.1
  | .el => p.2

/-- The route that gives an axis FSM the class, if the class is not OTHER: a laser goes to both
FSMs, a sync or a skip to one (R145). -/
def routeGiving (x : Axis) (cls : PulseClass) : PulseClass × PulseClass :=
  match cls, x with
  | .laser, _ => (.laser, .laser)
  | cls, .az => (cls, .other)
  | cls, .el => (.other, cls)

/-- A class other than OTHER tells the route it came by. -/
theorem eq_routeGiving (type : PulseType) (p : PulseClass × PulseClass) (x : Axis)
    (hp : routeClasses type = some p) (hx : classFor x p ≠ .other) :
    p = routeGiving x (classFor x p) := by
  have htype : type.toNat < 8 := type.isLt
  unfold routeClasses at hp
  generalize type.toNat = k at hp htype
  revert hx
  interval_cases k <;> cases hp <;> cases x <;> decide

/-! ### What a SAMPLE does to one axis FSM (R28, R92) -/

/-- One axis FSM's new registers and its event, for the route of the step (R92, R160). -/
def axisResult (c : Cfg) (x : Axis) (rise : Tick) (r : AxisRegs) :
    Option (PulseClass × PulseClass) → AxisRegs × Option Event
  | none => (r, none)
  | some p =>
    ((axisEffect c x (classFor x p) rise r).1, (axisEffect c x (classFor x p) rise r).2.1.head?)

/-- The event an operation emits is found under its own axis and under no other. -/
theorem axisEffect_find_axis (c : Cfg) (x y : Axis) (cls : PulseClass) (ts : Tick) (r : AxisRegs) :
    ((axisEffect c x cls ts r).2.1.find? fun e => e.axis == y) =
      if x = y then (axisEffect c x cls ts r).2.1.head? else none := by
  obtain ⟨h | ⟨e, h, rfl⟩, -⟩ := axisEffect_outputs c x cls ts r
  · simp [h]
  · rw [h]
    by_cases hy : e.axis = y <;> simp [hy]

theorem routePulse_route (type : PulseType) (rise : Tick) (s : State) :
    (routePulse type rise s).out.route = routeClasses type := by
  obtain ⟨hnone, h⟩ | ⟨a, b, hsome, h⟩ := routePulse_cases type rise s
  · rw [h, hnone]
    rfl
  · rw [h, hsome]

theorem routePulse_deb (type : PulseType) (rise : Tick) (s : State) :
    (routePulse type rise s).deb = s.deb := by
  obtain ⟨-, h⟩ | ⟨a, b, -, h⟩ := routePulse_cases type rise s <;> simp only [h, setRoute_deb]

theorem routePulse_pa (type : PulseType) (rise : Tick) (s : State) :
    (routePulse type rise s).pa = s.pa := by
  obtain ⟨-, h⟩ | ⟨a, b, -, h⟩ := routePulse_cases type rise s <;> simp only [h, setRoute_pa]

theorem routePulse_axis (type : PulseType) (rise : Tick) (s : State) (x : Axis) :
    (routePulse type rise s).axis x =
      (axisResult s.cfg.toCfg x rise (s.axis x) (routeClasses type)).1 := by
  obtain ⟨hnone, h⟩ | ⟨a, b, hsome, h⟩ := routePulse_cases type rise s
  · rw [h, hnone, setRoute_axis]; rfl
  · rw [h, hsome]
    cases x <;> rfl

theorem routePulse_event (type : PulseType) (rise : Tick) (s : State) (x : Axis)
    (hs : s.out.events = []) :
    (routePulse type rise s).event x =
      (axisResult s.cfg.toCfg x rise (s.axis x) (routeClasses type)).2 := by
  obtain ⟨hnone, h⟩ | ⟨a, b, hsome, h⟩ := routePulse_cases type rise s
  · simp [h, hnone, State.event, hs, axisResult]
  · rw [h, hsome]
    simp only [State.event, hs, List.nil_append, List.find?_append, axisEffect_find_axis]
    cases x <;> simp [axisResult, classFor]

/-- The route of a SAMPLE: its debouncer commits a fall, and the pulse's type is routed (R92). -/
def sampleRoute (level : Bool) (ts : Tick) (s : State) : Option (PulseClass × PulseClass) :=
  let d := debEffect s.cfg.toTunables level ts s.deb
  if d.2 = true ∧ d.1.stable = false then
    routeClasses (classify s.cfg.toTunables s.pa.riseTs d.1.ts)
  else none

/-- The assembler's register after a SAMPLE: a committed rise is latched (R141). -/
def samplePa (level : Bool) (ts : Tick) (s : State) : Pa :=
  let d := debEffect s.cfg.toTunables level ts s.deb
  if d.2 = true ∧ d.1.stable = true then ⟨d.1.ts⟩ else s.pa

/-- A SAMPLE by its parts: the debouncer's and the assembler's registers, the route, and each axis
FSM's registers and event, each from the registers it reads. -/
structure SampleParts (level : Bool) (ts : Tick) (s t : State) : Prop where
  deb : t.deb = (debEffect s.cfg.toTunables level ts s.deb).1
  pa : t.pa = samplePa level ts s
  route : t.out.route = sampleRoute level ts s
  axis : ∀ x, t.axis x =
    (axisResult s.cfg.toCfg x s.pa.riseTs (s.axis x) (sampleRoute level ts s)).1
  event : ∀ x, t.event x =
    (axisResult s.cfg.toCfg x s.pa.riseTs (s.axis x) (sampleRoute level ts s)).2

theorem axis_congr {s t : State} (haz : t.az = s.az) (hel : t.el = s.el) (x : Axis) :
    t.axis x = s.axis x := by
  cases x with
  | az => exact haz
  | el => exact hel

/-- The emitter writes none of a SAMPLE's parts (R200). -/
theorem SampleParts.emitEvents {level : Bool} {ts : Tick} {s t : State}
    (h : SampleParts level ts s t) : SampleParts level ts s (emitEvents t) := by
  obtain ⟨_, _, ht⟩ := emitEvents_frame t
  rw [ht]
  exact ⟨h.deb, h.pa, h.route, fun x => (axis_congr rfl rfl x).trans (h.axis x), h.event⟩

theorem sampleChain_parts (level : Bool) (ts : Tick) (s : State) :
    SampleParts level ts s (sampleChain level ts s.beginStep) := by
  obtain ⟨d, heff, h⟩ | ⟨d, heff, hd, h⟩ | ⟨d, heff, hd, h⟩ := sampleChain_cases level ts s <;>
    rw [h]
  · have hroute : sampleRoute level ts s = none := by simp [sampleRoute, heff]
    have hpa : samplePa level ts s = s.pa := by simp [samplePa, heff]
    exact ⟨by rw [heff], hpa.symm, hroute.symm, fun x => by rw [hroute]; exact axis_congr rfl rfl x,
      fun x => by rw [hroute]; rfl⟩
  · have hroute : sampleRoute level ts s = none := by simp [sampleRoute, heff, hd]
    have hpa : samplePa level ts s = ⟨d.ts⟩ := by simp [samplePa, heff, hd]
    exact ⟨by rw [heff], hpa.symm, hroute.symm, fun x => by rw [hroute]; exact axis_congr rfl rfl x,
      fun x => by rw [hroute]; rfl⟩
  · have hroute : sampleRoute level ts s =
        routeClasses (classify s.cfg.toTunables s.pa.riseTs d.ts) := by
      simp [sampleRoute, heff, hd]
    have hpa : samplePa level ts s = s.pa := by simp [samplePa, heff, hd]
    have haxis : ∀ x, (s.withPulse d).axis x = s.axis x := axis_congr rfl rfl
    refine SampleParts.emitEvents ⟨?_, ?_, ?_, fun x => ?_, fun x => ?_⟩
    · rw [routePulse_deb, heff]; rfl
    · rw [routePulse_pa, hpa]; rfl
    · rw [routePulse_route, hroute]
    · rw [routePulse_axis, hroute, haxis]; rfl
    · rw [routePulse_event _ _ _ _ rfl, hroute, haxis]; rfl

/-- What a SAMPLE can do to one axis FSM's registers: nothing, or one operation; and the class of
the operation, unless OTHER, tells the route of the step. -/
theorem sampleChain_axis_cases (level : Bool) (ts : Tick) (s : State) (x : Axis) :
    (sampleChain level ts s.beginStep).axis x = s.axis x ∨
    ∃ cls, (sampleChain level ts s.beginStep).axis x =
        (axisEffect s.cfg.toCfg x cls s.pa.riseTs (s.axis x)).1 ∧
      (cls ≠ .other →
        (sampleChain level ts s.beginStep).out.route = some (routeGiving x cls)) := by
  have h := sampleChain_parts level ts s
  rw [h.axis, h.route]
  cases hroute : sampleRoute level ts s with
  | none => exact .inl rfl
  | some p =>
    have hp : routeClasses (classify s.cfg.toTunables s.pa.riseTs
        (debEffect s.cfg.toTunables level ts s.deb).1.ts) = some p :=
      (ite_eq_iff.mp hroute).elim And.right fun hnone => nomatch hnone.2
    exact .inr ⟨classFor x p, rfl, fun hx => congrArg some (eq_routeGiving _ p x hp hx)⟩

/-! ### Invariants of section 6 -/

/-- Settles O14: not debouncing, no votes, both axes Idle, nothing presented. -/
theorem resetStateIsLegal : Obligations.ResetStateIsLegal :=
  ⟨{ votes_le := Nat.zero_le _
     votes_debouncing := nofun
     target_ne := nofun
     votes_dead := fun _ => rfl
     axis_state := ⟨Nat.zero_le _, Nat.zero_le _⟩
     one_active := .inl rfl },
    List.forall_mem_nil _, Nat.two_pow_pos _⟩

/-- Only RESET, a SAMPLE and the DEB operations write the counter, and what they write fits. -/
theorem exec_votes_lt (i : Instr) (s t : State) (hs : VotesFit s) (hexec : exec i s = .next t) :
    t.deb.votes < 2 ^ voteWidth s.cfg.toTunables := by
  cases i with
  | sample level ts =>
    cases hexec
    rw [(sampleChain_parts level ts s).deb]
    exact debEffect_votes_lt _ level ts s.deb hs
  | reset | debStartCommit | debCommit | debAbort =>
    cases hexec
    exact Nat.two_pow_pos _
  | debStart =>
    cases hexec
    exact one_lt_two_pow_voteWidth _
  | debUp =>
    cases hexec
    exact votesUp_lt _ _
  | debDown =>
    cases hexec
    exact votesDown_lt _ _ hs
  | paFall =>
    cases hexec
    obtain ⟨cs, hcl, -⟩ := runClassifier_frame (pulseWidth s.pa.riseTs s.deb.ts) s
    rw [paFall_eq, hcl]
    exact hs
  | axIdleOther x | axIdleSync x | axIdleSkip x | axIdleLaser x | axWsaOther x | axWsaSync x
  | axWsaSkip x | axWsaLaser x | axSbsOther x | axSbsSync x | axSbsSkip x | axSbsLaser x
  | axElaOther x | axElaSync x | axElaSkip x | axElbOther x | axElbSync x | axElbSkip x
  | axRsvd5 _ x | axRsvd67 _ _ x =>
    cases hexec
    cases x <;> exact hs
  | axElaLaser x ts | axElbLaser x ts =>
    cases hexec
    simp only [axElaLaser, axElbLaser, eval_axisGoto_idle, setAxis_deb]
    exact hs
  | emitAzA e | emitAzB e | emitElA e | emitElB e =>
    cases hexec
    obtain ⟨x, _, _, _⟩ := e
    cases x <;> exact hs
  | _ =>
    cases hexec
    exact hs

/-- Settles O16: the counter fits the width of the configuration, which no operation writes. -/
theorem operationsKeepVotesFit : Obligations.OperationsKeepVotesFit := by
  intro i s t hs hexec
  obtain ⟨u, hu, hcfg, -⟩ := operationsCompleteAndKeepConfiguration i s
  obtain rfl : t = u := Host.Outcome.next.inj (hexec.symm.trans hu)
  unfold VotesFit
  rw [hcfg]
  exact exec_votes_lt i s t hs hexec

/-! ### The two axes (R28, R160) -/

/-- The debouncer and the assembler read no axis register, so the route does not depend on one. -/
theorem sampleRoute_setAxis (level : Bool) (ts : Tick) (s : State) (y : Axis) (r : AxisRegs) :
    sampleRoute level ts (s.setAxis y r) = sampleRoute level ts s := by
  simp only [sampleRoute, setAxis_cfg, setAxis_deb, setAxis_pa]

theorem samplePa_setAxis (level : Bool) (ts : Tick) (s : State) (y : Axis) (r : AxisRegs) :
    samplePa level ts (s.setAxis y r) = samplePa level ts s := by
  simp only [samplePa, setAxis_cfg, setAxis_deb, setAxis_pa]

/-- Settles O45: each part of a SAMPLE reads the same registers of both states. -/
theorem axesAreIndependent : Obligations.AxesAreIndependent := by
  intro s t x r y level ts hne ht
  cases ht
  have hs := sampleChain_parts level ts s
  have hu := sampleChain_parts level ts (s.setAxis y r)
  have hx : (s.setAxis y r).axis x = s.axis x := setAxis_axis_of_ne s y x r hne.symm
  refine ⟨_, rfl, ?_, ?_, ?_, ?_⟩
  · rw [hu.axis, hs.axis, hx, sampleRoute_setAxis, setAxis_cfg, setAxis_pa]
  · rw [hu.deb, hs.deb, setAxis_cfg, setAxis_deb]
  · rw [hu.pa, hs.pa, samplePa_setAxis]
  · rw [hu.event, hs.event, hx, sampleRoute_setAxis, setAxis_cfg, setAxis_pa]

/-! ### Which operation writes what (R31 to R33, R185) -/

section
variable (c : Cfg) (x : Axis) (cls : PulseClass) (ts : Tick) (r : AxisRegs)

/-- What an operation can do to the registers, by who writes what: the two laser evaluations, the
entry to ExpectLaserB, the entry to ExpectLaserA, and all others, which write `pend_a` and the state
only. -/
theorem axisEffect_regs_cases :
    (cls = .laser ∧ r.state = AxisState.expectLaserA ∧
      (axisEffect c x cls ts r).1 =
        { r with lastA := sub32 ts r.pendA, state := AxisState.idle }) ∨
    (cls = .laser ∧ r.state = AxisState.expectLaserB ∧
      (axisEffect c x cls ts r).1 =
        { r with lastB := sub32 ts r.pendB, state := AxisState.idle }) ∨
    (cls = .sync ∧ r.state = AxisState.seenBSync ∧
      (axisEffect c x cls ts r).1 = { r with pendB := ts, state := AxisState.expectLaserB }) ∨
    (cls = .skip ∧ r.state = AxisState.waitSkipFromA ∧
      (axisEffect c x cls ts r).1 = { r with state := AxisState.expectLaserA }) ∨
    ∃ pa st, st ≠ AxisState.expectLaserA ∧ st ≠ AxisState.expectLaserB ∧
      (axisEffect c x cls ts r).1 = { r with pendA := pa, state := st } := by
  unfold axisEffect
  cases cls with
  | other => exact .inr (.inr (.inr (.inr ⟨r.pendA, 0, by decide, by decide, rfl⟩)))
  | sync =>
    refine .inr (.inr ?_)
    simp only
    split_ifs with h2
    · exact .inl ⟨trivial, BitVec.eq_of_toNat_eq h2, rfl⟩
    · exact .inr (.inr ⟨ts, 1, by decide, by decide, rfl⟩)
    · exact .inr (.inr ⟨r.pendA, 0, by decide, by decide, rfl⟩)
  | skip =>
    refine .inr (.inr (.inr ?_))
    simp only
    split_ifs with h1
    · exact .inl ⟨trivial, BitVec.eq_of_toNat_eq h1, rfl⟩
    · exact .inr ⟨r.pendA, 2, by decide, by decide, rfl⟩
    · exact .inr ⟨r.pendA, 0, by decide, by decide, rfl⟩
  | laser =>
    simp only
    by_cases h3 : r.state.toNat = 3
    · rw [if_pos h3]
      exact .inl ⟨trivial, BitVec.eq_of_toNat_eq h3, rfl⟩
    · rw [if_neg h3]
      refine .inr ?_
      by_cases h4 : r.state.toNat = 4
      · rw [if_pos h4]
        exact .inl ⟨trivial, BitVec.eq_of_toNat_eq h4, rfl⟩
      · rw [if_neg h4]
        exact .inr (.inr (.inr ⟨r.pendA, 0, by decide, by decide, rfl⟩))

/-- AX_ELA_LASER is the only writer of `last_a` (R32). -/
theorem axisEffect_lastA_of_ne (h : (axisEffect c x cls ts r).1.lastA ≠ r.lastA) :
    cls = .laser ∧ r.state = AxisState.expectLaserA := by
  obtain ⟨hcls, hst, -⟩ | ⟨-, -, hr⟩ | ⟨-, -, hr⟩ | ⟨-, -, hr⟩ | ⟨_, _, -, -, hr⟩ :=
    axisEffect_regs_cases c x cls ts r
  · exact ⟨hcls, hst⟩
  all_goals exact absurd (congrArg AxisRegs.lastA hr) h

/-- AX_ELB_LASER is the only writer of `last_b` (R33). -/
theorem axisEffect_lastB_of_ne (h : (axisEffect c x cls ts r).1.lastB ≠ r.lastB) :
    cls = .laser ∧ r.state = AxisState.expectLaserB := by
  obtain ⟨-, -, hr⟩ | ⟨hcls, hst, -⟩ | ⟨-, -, hr⟩ | ⟨-, -, hr⟩ | ⟨_, _, -, -, hr⟩ :=
    axisEffect_regs_cases c x cls ts r
  · exact absurd (congrArg AxisRegs.lastB hr) h
  · exact ⟨hcls, hst⟩
  all_goals exact absurd (congrArg AxisRegs.lastB hr) h

/-- AX_SBS_SYNC is the only writer of `pend_b`, and leads to ExpectLaserB (R31, R171). -/
theorem axisEffect_pendB_of_ne (h : (axisEffect c x cls ts r).1.pendB ≠ r.pendB) :
    (axisEffect c x cls ts r).1.state = AxisState.expectLaserB := by
  obtain ⟨-, -, hr⟩ | ⟨-, -, hr⟩ | ⟨-, -, hr⟩ | ⟨-, -, hr⟩ | ⟨_, _, -, -, hr⟩ :=
    axisEffect_regs_cases c x cls ts r
  · exact absurd (congrArg AxisRegs.pendB hr) h
  · exact absurd (congrArg AxisRegs.pendB hr) h
  · exact congrArg AxisRegs.state hr
  all_goals exact absurd (congrArg AxisRegs.pendB hr) h

/-- AX_WSA_SKIP is the only entry to ExpectLaserA (R168). -/
theorem axisEffect_expectLaserA
    (h : (axisEffect c x cls ts r).1.state = AxisState.expectLaserA) :
    cls = .skip ∧ r.state = AxisState.waitSkipFromA := by
  obtain ⟨-, -, hr⟩ | ⟨-, -, hr⟩ | ⟨-, -, hr⟩ | ⟨hcls, hst, -⟩ | ⟨_, _, hne, -, hr⟩ :=
    axisEffect_regs_cases c x cls ts r
  · exact nomatch h.symm.trans (congrArg AxisRegs.state hr)
  · exact nomatch h.symm.trans (congrArg AxisRegs.state hr)
  · exact nomatch h.symm.trans (congrArg AxisRegs.state hr)
  · exact ⟨hcls, hst⟩
  · exact absurd (h.symm.trans (congrArg AxisRegs.state hr)).symm hne

/-- AX_SBS_SYNC is the only entry to ExpectLaserB (R171). -/
theorem axisEffect_expectLaserB
    (h : (axisEffect c x cls ts r).1.state = AxisState.expectLaserB) :
    cls = .sync ∧ r.state = AxisState.seenBSync := by
  obtain ⟨-, -, hr⟩ | ⟨-, -, hr⟩ | ⟨hcls, hst, -⟩ | ⟨-, -, hr⟩ | ⟨_, _, -, hne, hr⟩ :=
    axisEffect_regs_cases c x cls ts r
  · exact nomatch h.symm.trans (congrArg AxisRegs.state hr)
  · exact nomatch h.symm.trans (congrArg AxisRegs.state hr)
  · exact ⟨hcls, hst⟩
  · exact nomatch h.symm.trans (congrArg AxisRegs.state hr)
  · exact absurd (h.symm.trans (congrArg AxisRegs.state hr)).symm hne

end

/-- Settles O46: a changed register comes of the LASER column, and only one route has LASER. -/
theorem lastDeltasChangeOnlyByLasers : Obligations.LastDeltasChangeOnlyByLasers := by
  intro s t x level ts ht
  cases ht
  obtain hsame | ⟨cls, haxis, hroute⟩ := sampleChain_axis_cases level ts s x
  · rw [hsame]
    exact ⟨fun h => absurd rfl h, fun h => absurd rfl h⟩
  · rw [haxis]
    constructor <;> intro h
    · obtain ⟨rfl, hstate⟩ := axisEffect_lastA_of_ne _ _ _ _ _ h
      exact ⟨hstate, hroute nofun⟩
    · obtain ⟨rfl, hstate⟩ := axisEffect_lastB_of_ne _ _ _ _ _ h
      exact ⟨hstate, hroute nofun⟩

theorem routeGiving_skip (x : Axis) :
    routeGiving x .skip = if x = .az then (.skip, .other) else (.other, .skip) := by
  cases x <;> rfl

theorem routeGiving_sync (x : Axis) :
    routeGiving x .sync = if x = .az then (.sync, .other) else (.other, .sync) := by
  cases x <;> rfl

/-- Settles O47: each of the three comes of one entry of the transition table, whose class tells the
route. -/
theorem expectStatesHaveOneEntry : Obligations.ExpectStatesHaveOneEntry := by
  intro s t x level ts ht
  cases ht
  rw [← routeGiving_skip, ← routeGiving_sync]
  obtain hsame | ⟨cls, haxis, hroute⟩ := sampleChain_axis_cases level ts s x
  · rw [hsame]
    exact ⟨fun h hne => absurd h hne, fun h hne => absurd h hne, fun h => absurd rfl h⟩
  · rw [haxis]
    refine ⟨fun h _ => ?_, fun h _ => ?_, fun h => ?_⟩
    · obtain ⟨rfl, hstate⟩ := axisEffect_expectLaserA _ _ _ _ _ h
      exact ⟨hstate, hroute nofun⟩
    · obtain ⟨rfl, hstate⟩ := axisEffect_expectLaserB _ _ _ _ _ h
      exact ⟨hstate, hroute nofun⟩
    · have hentry := axisEffect_pendB_of_ne _ _ _ _ _ h
      obtain ⟨rfl, hstate⟩ := axisEffect_expectLaserB _ _ _ _ _ hentry
      exact ⟨hstate, hentry, hroute nofun⟩

end Sys2Proof.Machine
end

section
/-!
SUPPORT. 30_encoding.md: a word and its operation determine each other, each selector word chooses
the operation its sub-step runs, and what the stimuli of section 6 do.
-/

namespace Sys2Proof.Machine

/-! ### Encoding and decoding (R66, R74 to R79) -/

theorem decodeIn_inWord (rst valid level : Bool) (ts : Tick) :
    decodeIn (inWord rst valid level ts) =
      if rst then .reset valid level ts
      else if valid then .sample level ts
      else .idle level ts := by
  simp only [decodeIn, inWord_rst_getLsbD, inWord_valid_getLsbD, inWord_level_getLsbD, inWord_ts]

theorem decodeAx_axWord_five (c : BitVec 2) (x : Axis) (ts : Tick) :
    decodeAx (axWord 0b101 c) x ts = .axRsvd5 c x ts := by
  simp only [decodeAx, axWord_state, axWord_class]
  rfl

theorem decodeAx_axWord_sixSeven (b : Bool) (c : BitVec 2) (x : Axis) (ts : Tick) :
    decodeAx (axWord (0b11#2 ++ BitVec.ofBool b) c) x ts = .axRsvd67 b c x ts := by
  simp only [decodeAx, axWord_state, axWord_class, axWord_state0_getLsbD]
  cases b <;> rfl

/-- Settles O1, by the operation: the bits its pattern leaves open are read back from its word, and
an EMIT operation's axis and lighthouse are those of its mnemonic. -/
theorem decodeOfEncode : Obligations.DecodeOfEncode := by
  intro i hwf
  cases i with
  | reset | sample | idle => exact congrArg Except.ok (decodeIn_inWord _ _ _ _)
  | debHold r z => cases r <;> cases z <;> rfl
  | debStart b | debStartCommit b | debDown b | debAbort b | debUp b | debCommit b | paNone b
  | rtRsvd b => cases b <;> rfl
  | axRsvd5 c x ts => exact congrArg Except.ok (decodeAx_axWord_five c x ts)
  | axRsvd67 b c x ts => exact congrArg Except.ok (decodeAx_axWord_sixSeven b c x ts)
  | emitAzA e | emitAzB e | emitElA e | emitElB e =>
    obtain ⟨x, l, sync, laser⟩ := e
    cases x <;> cases l <;> cases hwf
    rfl
  | _ => rfl

/-- Every 35-bit word is the IN word of its own fields (R66). -/
theorem inWord_fields (w : BitVec 35) :
    inWord (w.getLsbD 34) (w.getLsbD 33) (w.getLsbD 32) (w.extractLsb' 0 32) = w := by
  apply BitVec.eq_of_getLsbD_eq
  intro i hi
  simp only [inWord, BitVec.getLsbD_cast, BitVec.getLsbD_append, BitVec.getLsbD_ofBool,
    BitVec.getLsbD_extractLsb', Nat.zero_add]
  by_cases hts : i < 32
  · simp [hts]
  · obtain rfl | rfl | rfl : i = 32 ∨ i = 33 ∨ i = 34 := by omega
    all_goals simp

theorem debWord_fields (sel : BitVec 4) :
    debWord (sel.getLsbD 3) (sel.getLsbD 2) (sel.getLsbD 1) (sel.getLsbD 0) = sel := by
  decide +revert

theorem pairWord_fields (sel : BitVec 2) : pairWord (sel.getLsbD 1) (sel.getLsbD 0) = sel := by
  decide +revert

/-- A selector of a numbered table, as a literal once its number is known. -/
theorem exists_eq_ofNat {n : Nat} (sel : BitVec n) : ∃ k < 2 ^ n, sel = BitVec.ofNat n k :=
  ⟨sel.toNat, sel.isLt, by simp⟩

theorem encode_decodeIn (w : BitVec 35) :
    encode (decodeIn w) = .inp w ∧ (decodeIn w).WellFormed = true := by
  rw [← inWord_fields w, decodeIn_inWord]
  cases w.getLsbD 34 <;> cases w.getLsbD 33 <;> exact ⟨rfl, rfl⟩

theorem encode_decodeDeb (sel : BitVec 4) (level : Bool) (ts : Tick) :
    encode (decodeDeb sel level ts) = .deb sel level ts ∧
      (decodeDeb sel level ts).WellFormed = true := by
  rw [← debWord_fields sel]
  cases sel.getLsbD 3 <;> cases sel.getLsbD 2 <;> cases sel.getLsbD 1 <;> cases sel.getLsbD 0 <;>
    exact ⟨rfl, rfl⟩

theorem encode_decodePa (sel : BitVec 2) :
    encode (decodePa sel) = .pa sel ∧ (decodePa sel).WellFormed = true := by
  rw [← pairWord_fields sel]
  cases sel.getLsbD 1 <;> cases sel.getLsbD 0 <;> exact ⟨rfl, rfl⟩

theorem encode_decodeCl (sel : BitVec 4) (width : Tick) (i : Instr)
    (h : decodeCl sel width = .ok i) : encode i = .cl sel width ∧ i.WellFormed = true := by
  obtain ⟨k, hk, rfl⟩ := exists_eq_ofNat sel
  interval_cases k <;> cases h <;> exact ⟨rfl, rfl⟩

theorem encode_decodeRt (sel : BitVec 3) :
    encode (decodeRt sel) = .rt sel ∧ (decodeRt sel).WellFormed = true := by
  obtain ⟨k, hk, rfl⟩ := exists_eq_ofNat sel
  interval_cases k <;> exact ⟨rfl, rfl⟩

theorem encode_decodeAx (sel : BitVec 5) (x : Axis) (ts : Tick) :
    encode (decodeAx sel x ts) = .ax sel x ts ∧ (decodeAx sel x ts).WellFormed = true := by
  obtain ⟨k, hk, rfl⟩ := exists_eq_ofNat sel
  interval_cases k <;> exact ⟨rfl, rfl⟩

theorem encode_decodeEm (sel : BitVec 2) (sync laser : Tick) :
    encode (decodeEm sel sync laser) = .em sel sync laser ∧
      (decodeEm sel sync laser).WellFormed = true := by
  rw [← pairWord_fields sel]
  cases sel.getLsbD 1 <;> cases sel.getLsbD 0 <;> exact ⟨rfl, rfl⟩

/-- Settles O2, format by format: a word is put together from the bits its operation keeps. -/
theorem encodeOfDecode : Obligations.EncodeOfDecode := by
  intro w i h
  cases w with
  | inp w => cases h; exact encode_decodeIn w
  | deb sel level ts => cases h; exact encode_decodeDeb sel level ts
  | pa sel => cases h; exact encode_decodePa sel
  | cl sel width => exact encode_decodeCl sel width i h
  | rt sel => cases h; exact encode_decodeRt sel
  | ax sel x ts => cases h; exact encode_decodeAx sel x ts
  | em sel sync laser => cases h; exact encode_decodeEm sel sync laser
  | unformatted => cases h

/-- Settles O3: the fields of an IN word choose its transaction, and every word has such fields. -/
theorem inWordDecodesByRstThenValid : Obligations.InWordDecodesByRstThenValid := by
  intro rst valid level ts
  exact ⟨congrArg Except.ok (decodeIn_inWord rst valid level ts),
    fun w => ⟨_, _, _, _, (inWord_fields w).symm⟩⟩

/-- Settles O5: literal words, so the decoder evaluates on each. -/
theorem wordsOfTheTablesDecode : Obligations.WordsOfTheTablesDecode :=
  ⟨fun _ _ => ⟨rfl, rfl, rfl, rfl, rfl⟩, rfl, fun _ => rfl, rfl, fun _ _ => ⟨rfl, rfl⟩,
    fun _ _ => rfl⟩

/-! ### Steps on no word and on no operation (R66, R81) -/

/-- Settles O7: the port's word is `idleWord`, which decodes to IDLE. -/
theorem stepWithNothingPresentedIsIdle : Obligations.StepWithNothingPresentedIsIdle := by
  intro s hin
  have hd : decode s.fetch = .ok (.idle false 0) := by
    rw [State.fetch, hin]
    rfl
  have hadvance : s.advance = { s with out := Outputs.quiet } := by
    simp only [State.advance, hin, List.tail_nil]
  rw [step_of_decode_fetch s _ hd, hadvance]
  rfl

/-- Settles O8: the port's word is the head of the list; the refusal has the decoder's error. -/
theorem stepRefusesReservedWords : Obligations.StepRefusesReservedWords := by
  intro s w rest e hin hd
  have hfetch : s.fetch = w := by simp [State.fetch, hin]
  simp only [step, hfetch, hd]

/-- The word of a well-formed operation runs that operation. -/
theorem runWord_encode (i : Instr) (s : State) (hwf : i.WellFormed = true) :
    runWord (encode i) s = exec i s := by
  simp only [runWord, decodeOfEncode i hwf]

/-! ### The DEB format (R74, R121 to R128) -/

/-- Settles O18: the words are those of the encoder, and the vote operations count without a wrap
within their rules' conditions. -/
theorem debOperationsComplete : Obligations.DebOperationsComplete := by
  intro r z level ts s
  refine ⟨⟨decodeOfEncode (.debHold r z level ts) rfl, decodeOfEncode (.debStart z level ts) rfl,
    decodeOfEncode (.debStartCommit z level ts) rfl, decodeOfEncode (.debUp z level ts) rfl,
    decodeOfEncode (.debCommit z level ts) rfl, decodeOfEncode (.debDown r level ts) rfl,
    decodeOfEncode (.debAbort r level ts) rfl⟩, rfl, rfl, rfl, fun hup => ?_, rfl, fun hdown => ?_,
    rfl⟩
  · rw [← votesUp_of_lt _ _ hup]
    rfl
  · rw [← votesDown_of_pos s.cfg.toTunables _ (by omega)]
    rfl

theorem debSelector_notDebouncing (s : State) (level : Bool) (h : s.deb.mode = .notDebouncing) :
    debSelector s level =
      debWord false (level != s.deb.stable) (decide (1 ≥ s.cfg.debThresh))
        (decide (s.deb.votes ≤ 1)) := by
  simp [debSelector, h, DebMode.code]

theorem debSelector_debouncing (s : State) (level : Bool) (h : s.deb.mode = .debouncing) :
    debSelector s level =
      debWord true (level == s.deb.target) (decide (s.deb.votes + 1 ≥ s.cfg.debThresh))
        (decide (s.deb.votes ≤ 1)) := by
  simp [debSelector, h, DebMode.code]

/-- Settles O19, by the cases of R128: the bits that a case fixes are those of its operation's
pattern, and the operation has no use for the others. -/
theorem debSelectorChoosesOperation : Obligations.DebSelectorChoosesOperation := by
  intro s level ts
  obtain ⟨hm, hx, h⟩ | ⟨hm, hx, hr, h⟩ | ⟨hm, hx, hr, h⟩ | ⟨hm, hx, hr, h⟩ | ⟨hm, hx, hr, h⟩ |
    ⟨hm, hx, hz, h⟩ | ⟨hm, hx, hz, h⟩ := debounce_cases level ts s <;> rw [h]
  · rw [debSelector_notDebouncing s level hm, hx, bne_self_eq_false]
    exact runWord_encode (.debHold _ _ _ ts) s rfl
  · rw [debSelector_notDebouncing s level hm, bne_iff_ne.mpr hx, decide_eq_false (by omega)]
    exact runWord_encode (.debStart _ level ts) s rfl
  · rw [debSelector_notDebouncing s level hm, bne_iff_ne.mpr hx, decide_eq_true (by omega)]
    exact runWord_encode (.debStartCommit _ level ts) s rfl
  · rw [debSelector_debouncing s level hm, beq_iff_eq.mpr hx, decide_eq_true hr]
    exact runWord_encode (.debCommit _ level ts) s rfl
  · rw [debSelector_debouncing s level hm, beq_iff_eq.mpr hx, decide_eq_false (Nat.not_le.mpr hr)]
    exact runWord_encode (.debUp _ level ts) s rfl
  · rw [debSelector_debouncing s level hm, beq_eq_false_iff_ne.mpr hx, decide_eq_true hz]
    exact runWord_encode (.debAbort _ level ts) s rfl
  · rw [debSelector_debouncing s level hm, beq_eq_false_iff_ne.mpr hx,
      decide_eq_false (Nat.not_le.mpr hz)]
    exact runWord_encode (.debDown _ level ts) s rfl

/-! ### The PA format (R75, R140 to R142) -/

/-- PA_FALL by its outputs: the classifier's result is `classify` of the two timestamps, and the
condition is signalled when that is INVALID (R112, R142). -/
theorem paFall_outputs (s : State) :
    paFall s =
      { s with
        out :=
          { s.out with
            pulseType := some (classify s.cfg.toTunables s.pa.riseTs s.deb.ts)
            pulse :=
              some
                ⟨s.pa.riseTs, s.deb.ts - s.pa.riseTs,
                  classify s.cfg.toTunables s.pa.riseTs s.deb.ts⟩
            conditions :=
              s.out.conditions ++
                if classify s.cfg.toTunables s.pa.riseTs s.deb.ts = PulseType.invalid then
                  [.unclassifiablePulse (s.deb.ts - s.pa.riseTs)]
                else [] } } := by
  have htype : classify s.cfg.toTunables s.pa.riseTs s.deb.ts = PulseType.invalid ↔
      binIndex s.cfg.toTunables (pulseWidth s.pa.riseTs s.deb.ts) = 0 :=
    binType_eq_invalid _ (binIndex_le _ _)
  obtain ⟨cs, hcl, hcs⟩ := runClassifier_frame (pulseWidth s.pa.riseTs s.deb.ts) s
  simp only [paFall_eq, hcl, hcs, htype]
  rfl

/-- Settles O27: the words are those of the encoder, and PA_FALL's outputs are known. -/
theorem paOperationsComplete : Obligations.PaOperationsComplete := by
  intro b s
  exact ⟨decodeOfEncode (.paNone b) rfl, rfl, rfl, rfl, rfl, _,
    congrArg Host.Outcome.next (paFall_outputs s), rfl⟩

theorem runWord_paSelector (s : State) : runWord (.pa (paSelector s)) s = .next (assemble s) := by
  unfold paSelector
  obtain ⟨hc, h⟩ | ⟨hc, hs, h⟩ | ⟨hc, hs, h⟩ := assemble_cases s <;> rw [h, hc]
  · exact runWord_encode (.paNone s.deb.stable) s rfl
  · rw [hs]
    exact runWord_encode .paRise s rfl
  · rw [hs]
    exact runWord_encode .paFall s rfl

/-! ### The CL format (R76, R102 to R114) -/

/-- Settles O34: each row of the table, word and effect, by evaluation. -/
theorem clOperationsComplete : Obligations.ClOperationsComplete := fun _ _ =>
  ⟨⟨rfl, rfl, rfl, rfl, rfl, rfl, rfl, rfl, rfl, rfl⟩,
    rfl, rfl, rfl, rfl, rfl, rfl, rfl, rfl, rfl, rfl⟩

theorem runWord_clSelector (width : Tick) (s : State) :
    runWord (.cl (clSelector s.cfg.toTunables width) width) s = .next (runClassifier width s) := by
  have h := binIndex_le s.cfg.toTunables width
  unfold clSelector runClassifier
  generalize binIndex s.cfg.toTunables width = k at h
  interval_cases k <;> rfl

/-- Settles O28: the CL selector of the pulse's width chooses what the classifier runs. -/
theorem fallRunsSelectedClassifier : Obligations.FallRunsSelectedClassifier := by
  intro s
  simp only [fallBySelectors, runWord_clSelector]
  rfl

/-- The bins by number are the list of bins, counted from 1 (R76). -/
theorem bin_eq_some_iff (t : Tunables) (k : Nat) (b : Bin) :
    t.bin k = some b ↔ ∃ j, k = j + 1 ∧ t.bins[j]? = some b := by
  constructor
  · intro h
    unfold Tunables.bin at h
    split at h <;> first | exact ⟨_, rfl, h⟩ | cases h
  · rintro ⟨j, rfl, h⟩
    have hj : j < 9 := (List.getElem?_eq_some_iff.mp h).1
    interval_cases j <;> exact h

theorem inBin_iff (b : Bin) (bias : Int) (width : Tick) :
    inBin b bias width = true ↔
      b.lo + bias ≤ (width.toNat : Int) ∧ (width.toNat : Int) < b.hi + bias := by
  simp [inBin]

/-- Bins of a well-formed configuration that share a width have the same number (R11, R114). -/
theorem bin_number_unique (t : Tunables) (ht : t.WF) (width : Tick) {j k : Nat} {b d : Bin}
    (hb : t.bin j = some b) (hd : t.bin k = some d) (hbw : inBin b t.widthBias width = true)
    (hdw : inBin d t.widthBias width = true) : j = k := by
  obtain ⟨-, -, hdisjoint⟩ := ht
  obtain ⟨m, rfl, hm⟩ := (bin_eq_some_iff t j b).mp hb
  obtain ⟨n, rfl, hn⟩ := (bin_eq_some_iff t k d).mp hd
  obtain ⟨hmlt, rfl⟩ := List.getElem?_eq_some_iff.mp hm
  obtain ⟨hnlt, rfl⟩ := List.getElem?_eq_some_iff.mp hn
  rw [inBin_iff] at hbw hdw
  rw [List.pairwise_iff_getElem] at hdisjoint
  obtain hlt | rfl | hgt := lt_trichotomy m n
  · have := hdisjoint m n hmlt hnlt hlt
    omega
  · rfl
  · have := hdisjoint n m hnlt hmlt hgt
    omega

/-- `k` is the number of a bin the width is in, or 0 and the width is in none (R76). -/
def IsBinNumberOf (t : Tunables) (width : Tick) (k : Nat) : Prop :=
  (k = 0 ∧ ∀ b ∈ t.bins, inBin b t.widthBias width = false) ∨
    ∃ b, t.bin k = some b ∧ inBin b t.widthBias width = true

/-- Each of the nine tests answers its bin's number; past all of them, no bin has the width. -/
theorem binIndex_isBinNumberOf (t : Tunables) (width : Tick) :
    IsBinNumberOf t width (binIndex t width) := by
  unfold binIndex
  iterate 9
    refine iteInduction (motive := IsBinNumberOf t width) (fun h => .inr ⟨_, rfl, h⟩) fun _ => ?_
  exact .inl ⟨rfl, by simp [Tunables.bins, *]⟩

/-- In a well-formed configuration the bin index is the number of the bin that has the width. -/
theorem binIndex_eq_iff (t : Tunables) (ht : t.WF) (width : Tick) {k : Nat} {b : Bin}
    (hb : t.bin k = some b) : binIndex t width = k ↔ inBin b t.widthBias width = true := by
  obtain ⟨hzero, hnone⟩ | ⟨d, hd, hdw⟩ := binIndex_isBinNumberOf t width
  · obtain ⟨j, rfl, hj⟩ := (bin_eq_some_iff t k b).mp hb
    simp [hzero, hnone b (List.mem_of_getElem? hj)]
  · constructor
    · rintro rfl
      obtain rfl : d = b := Option.some.inj (hd.symm.trans hb)
      exact hdw
    · exact bin_number_unique t ht width hd hb hdw

/-- Settles O36: the tests find a bin that has the width, and only one has it. -/
theorem binIndexIsTheContainingBin : Obligations.BinIndexIsTheContainingBin := by
  intro c width
  have hiff : ∀ k b, c.bin k = some b →
      (binIndex c.toTunables width = k ↔
        b.lo + c.widthBias ≤ (width.toNat : Int) ∧ (width.toNat : Int) < b.hi + c.widthBias) :=
    fun k b hb => (binIndex_eq_iff _ c.wf.1 width hb).trans (inBin_iff b c.widthBias width)
  refine ⟨hiff, fun hzero k b hb hin => ?_, fun hnone => ?_⟩
  · have hk := (hiff k b hb).mpr hin
    obtain ⟨j, rfl, -⟩ := (bin_eq_some_iff _ k b).mp hb
    omega
  · obtain ⟨hzero, -⟩ | ⟨d, hd, hdw⟩ := binIndex_isBinNumberOf c.toTunables width
    · exact hzero
    · exact absurd ((inBin_iff d _ width).mp hdw) (hnone _ d hd)

/-! ### The RT, AX and EM formats (R77 to R79) -/

/-- Settles O38: each row of the table, word and effect, by evaluation. -/
theorem rtOperationsComplete : Obligations.RtOperationsComplete := fun _ _ =>
  ⟨⟨rfl, rfl, rfl, rfl, rfl, rfl, rfl, rfl⟩, rfl, rfl, rfl, rfl, rfl, rfl, rfl⟩

theorem runWord_rtSelector (type : PulseType) (s : State) :
    runWord (.rt (rtSelector type)) s = .next (route type s) := by
  obtain ⟨k, hk, rfl⟩ := exists_eq_ofNat type
  interval_cases k <;> rfl

/-- Settles O44: the selector's two fields are read back as the state code and the class, and the
decoder's rows are those of the transition table. -/
theorem axSelectorChoosesOperation : Obligations.AxSelectorChoosesOperation := by
  intro s x c ts
  have hk : (s.axis x).state.toNat < 8 := (s.axis x).state.isLt
  simp only [runWord, decode, decodeAx, axSelector, axWord_state, axWord_class, ofCode_code]
  unfold axisStep
  generalize (s.axis x).state.toNat = k at hk
  interval_cases k <;> cases c <;> rfl

theorem runWord_emSelector (e : Event) (s : State) :
    runWord (.em (emSelector e) e.sync e.laser) s = .next (emit e s) := by
  obtain ⟨x, l, sync, laser⟩ := e
  cases x <;> cases l
  · exact runWord_encode (.emitAzA ⟨.az, .a, sync, laser⟩) s rfl
  · exact runWord_encode (.emitAzB ⟨.az, .b, sync, laser⟩) s rfl
  · exact runWord_encode (.emitElA ⟨.el, .a, sync, laser⟩) s rfl
  · exact runWord_encode (.emitElB ⟨.el, .b, sync, laser⟩) s rfl

/-! ### A SAMPLE by its selector words (R65, R92, R93) -/

theorem andThen_next (s : State) (f : State → Host.Outcome State Fault Refusal) :
    andThen (.next s) f = f s := rfl

theorem emitBySelectors_eq (es : List Event) (s : State) :
    emitBySelectors es s = .next (emitAll es s) := by
  induction es generalizing s with
  | nil => rfl
  | cons e es ih =>
    rw [emitBySelectors, runWord_emSelector, andThen_next, ih]
    rfl

/-- Each axis FSM's selector is computed when its turn comes, azimuth's first (R93). -/
theorem axesBySelectors_eq (classAz classEl : PulseClass) (rise : Tick) (s : State) :
    axesBySelectors classAz classEl rise s =
      .next (axisStep .el classEl rise (axisStep .az classAz rise s)) := by
  have haz := axSelectorChoosesOperation s .az classAz rise
  have hel := axSelectorChoosesOperation (axisStep .az classAz rise s) .el classEl rise
  rw [axis_az] at haz
  rw [axis_el] at hel
  rw [axesBySelectors, haz, andThen_next, hel]

theorem pulseBySelectors_eq (p : Pulse) (s : State) :
    pulseBySelectors p s = .next (routePulse p.type p.rise s) := by
  unfold pulseBySelectors routePulse
  rw [runWord_rtSelector, andThen_next]
  simp only
  generalize route p.type s = t
  cases t.out.route with
  | none => rfl
  | some classes => exact axesBySelectors_eq classes.1 classes.2 p.rise t

/-- Settles O56: sub-step by sub-step, each selector word chooses what the chain runs next. -/
theorem sampleIsItsMicroOperations : Obligations.SampleIsItsMicroOperations := by
  intro s level ts
  change Host.Outcome.next (sampleChain level ts s.beginStep) = _
  unfold sampleBySelectors sampleChain
  rw [debSelectorChoosesOperation, andThen_next, runWord_paSelector, andThen_next]
  simp only
  generalize assemble (debounce level ts s.beginStep) = t
  cases t.out.pulse with
  | none => exact (emitBySelectors_eq _ _).symm
  | some p =>
    simp only [pulseBySelectors_eq, andThen_next, emitBySelectors_eq]
    rfl

/-! ### `P <TYPE> @<ts>`: one axis FSM by itself (R84, R145, R160) -/

theorem classFor_routeGiving (x : Axis) (cls : PulseClass) :
    classFor x (routeGiving x cls) = cls := by
  cases x <;> cases cls <;> rfl

/-- A route made for one axis FSM gives the other nothing that moves it out of Idle. -/
theorem classFor_routeGiving_of_ne (x y : Axis) (cls : PulseClass) (hy : y ≠ x) :
    classFor y (routeGiving x cls) = .other ∨ classFor y (routeGiving x cls) = .laser := by
  revert hy
  cases x <;> cases y <;> cases cls <;> decide

/-- In Idle, OTHER and LASER change nothing and put nothing out (R162, R165). -/
theorem axisEffect_idle_ignored (c : Cfg) (x : Axis) (cls : PulseClass) (ts : Tick) (r : AxisRegs)
    (hr : r.state = AxisState.idle) (hcls : cls = .other ∨ cls = .laser) :
    axisEffect c x cls ts r = (r, [], []) := by
  obtain ⟨st, _, _, _, _⟩ := r
  subst hr
  obtain rfl | rfl := hcls <;> rfl

theorem presentPulse_cfg (type : PulseType) (ts : Tick) (s : State) :
    (presentPulse type ts s).cfg = s.cfg :=
  (emitEvents_keepsEnvironment _).1.trans (routePulse_keepsEnvironment type ts s.beginStep).1

theorem presentPulse_axis (type : PulseType) (ts : Tick) (s : State) (x : Axis) :
    (presentPulse type ts s).axis x =
      (axisResult s.cfg.toCfg x ts (s.axis x) (routeClasses type)).1 := by
  obtain ⟨_, _, hemit⟩ := emitEvents_frame (routePulse type ts s.beginStep)
  unfold presentPulse
  rw [hemit]
  exact (axis_congr rfl rfl x).trans
    ((routePulse_axis type ts s.beginStep x).trans (by rw [beginStep_axis, beginStep_cfg]))

/-- A routed pulse puts out what the two operations put out, azimuth's first (R92, R93). -/
theorem presentPulse_outputs (type : PulseType) (ts : Tick) (s : State)
    (p : PulseClass × PulseClass) (hp : routeClasses type = some p) :
    (presentPulse type ts s).out.events =
        (axisEffect s.cfg.toCfg .az (classFor .az p) ts (s.axis .az)).2.1 ++
          (axisEffect s.cfg.toCfg .el (classFor .el p) ts (s.axis .el)).2.1 ∧
      (presentPulse type ts s).out.conditions =
        (axisEffect s.cfg.toCfg .az (classFor .az p) ts (s.axis .az)).2.2 ++
          (axisEffect s.cfg.toCfg .el (classFor .el p) ts (s.axis .el)).2.2 := by
  obtain ⟨hnone, -⟩ | ⟨a, b, hsome, h⟩ := routePulse_cases type ts s.beginStep
  · simp [hnone] at hp
  · obtain rfl : p = (a, b) := Option.some.inj (hp.symm.trans hsome)
    obtain ⟨_, _, hemit⟩ := emitEvents_frame (routePulse type ts s.beginStep)
    unfold presentPulse
    rw [hemit, h]
    exact ⟨rfl, rfl⟩

/-- A step in which the FSM of `x` takes one operation, the other stays in Idle, and the outputs are
those of `x`. -/
structure ActsAlone (x : Axis) (cls : PulseClass) (ts : Tick) (s t : State) : Prop where
  cfg : t.cfg = s.cfg
  axis : t.axis x = (axisEffect s.cfg.toCfg x cls ts (s.axis x)).1
  events : t.out.events = (axisEffect s.cfg.toCfg x cls ts (s.axis x)).2.1
  conditions : t.out.conditions = (axisEffect s.cfg.toCfg x cls ts (s.axis x)).2.2
  others : ∀ y, y ≠ x → (t.axis y).state = AxisState.idle

/-- A step of one axis FSM whose table entry is known. -/
theorem ActsAlone.of_effect {x : Axis} {cls : PulseClass} {ts : Tick} {s t : State}
    {q : AxisRegs × List Event × List Condition} (h : ActsAlone x cls ts s t)
    (hq : axisEffect s.cfg.toCfg x cls ts (s.axis x) = q) :
    t.axis x = q.1 ∧ t.out.events = q.2.1 ∧ t.out.conditions = q.2.2 :=
  hq ▸ ⟨h.axis, h.events, h.conditions⟩

/-- A pulse for one axis FSM moves it alone while the other is in Idle. -/
theorem presentPulse_actsAlone (x : Axis) (cls : PulseClass) (type : PulseType) (ts : Tick)
    (s : State) (hroute : routeClasses type = some (routeGiving x cls))
    (hidle : ∀ y, y ≠ x → (s.axis y).state = AxisState.idle) :
    ActsAlone x cls ts s (presentPulse type ts s) := by
  have hother : ∀ y, y ≠ x →
      axisEffect s.cfg.toCfg y (classFor y (routeGiving x cls)) ts (s.axis y) =
        (s.axis y, [], []) := fun y hy =>
    axisEffect_idle_ignored _ y _ ts _ (hidle y hy) (classFor_routeGiving_of_ne x y cls hy)
  have haxis := presentPulse_axis type ts s
  obtain ⟨hevents, hconditions⟩ := presentPulse_outputs type ts s _ hroute
  rw [hroute] at haxis
  have hx := classFor_routeGiving x cls
  refine ⟨presentPulse_cfg type ts s, ?_, ?_, ?_, fun y hy => ?_⟩
  · rw [haxis, axisResult, hx]
  · cases x with
    | az => rw [hevents, hx, hother .el nofun, List.append_nil]
    | el => rw [hevents, hx, hother .az nofun, List.nil_append]
  · cases x with
    | az => rw [hconditions, hx, hother .el nofun, List.append_nil]
    | el => rw [hconditions, hx, hother .az nofun, List.nil_append]
  · rw [haxis, axisResult, hother y hy]
    exact hidle y hy

theorem presentPulse_sync (x : Axis) (ts : Tick) (s : State)
    (hidle : ∀ y, y ≠ x → (s.axis y).state = AxisState.idle) :
    ActsAlone x .sync ts s (presentPulse (syncType x) ts s) :=
  presentPulse_actsAlone x .sync _ ts s (by cases x <;> rfl) hidle

theorem presentPulse_skip (x : Axis) (ts : Tick) (s : State)
    (hidle : ∀ y, y ≠ x → (s.axis y).state = AxisState.idle) :
    ActsAlone x .skip ts s (presentPulse (skipType x) ts s) :=
  presentPulse_actsAlone x .skip _ ts s (by cases x <;> rfl) hidle

theorem presentPulse_laser (x : Axis) (ts : Tick) (s : State)
    (hidle : ∀ y, y ≠ x → (s.axis y).state = AxisState.idle) :
    ActsAlone x .laser ts s (presentPulse PulseType.laser ts s) :=
  presentPulse_actsAlone x .laser _ ts s (by cases x <;> rfl) hidle

section
variable (c : Cfg) (x : Axis) (ts : Tick) (r : AxisRegs)

/-- AX_IDLE_SYNC (R163). -/
theorem axisEffect_sync_of_idle (h : r.state = AxisState.idle) :
    axisEffect c x .sync ts r =
      ({ r with pendA := ts, state := AxisState.waitSkipFromA }, [], []) := by
  simp only [axisEffect, h]
  rfl

/-- AX_WSA_SKIP (R168). -/
theorem axisEffect_skip_of_waitSkipFromA (h : r.state = AxisState.waitSkipFromA) :
    axisEffect c x .skip ts r = ({ r with state := AxisState.expectLaserA }, [], []) := by
  simp only [axisEffect, h]
  rfl

/-- AX_ELA_LASER (R177). -/
theorem axisEffect_laser_of_expectLaserA (h : r.state = AxisState.expectLaserA) :
    axisEffect c x .laser ts r = evalEffect c x .a ts r := by
  simp only [axisEffect, h]
  rfl

/-- AX_IDLE_SKIP (R164). -/
theorem axisEffect_skip_of_idle (h : r.state = AxisState.idle) :
    axisEffect c x .skip ts r = ({ r with state := AxisState.seenBSync }, [], []) := by
  simp only [axisEffect, h]
  rfl

/-- AX_SBS_SYNC (R171). -/
theorem axisEffect_sync_of_seenBSync (h : r.state = AxisState.seenBSync) :
    axisEffect c x .sync ts r =
      ({ r with pendB := ts, state := AxisState.expectLaserB }, [], []) := by
  simp only [axisEffect, h]
  rfl

/-- AX_ELB_LASER (R181). -/
theorem axisEffect_laser_of_expectLaserB (h : r.state = AxisState.expectLaserB) :
    axisEffect c x .laser ts r = evalEffect c x .b ts r := by
  simp only [axisEffect, h]
  rfl

end

/-- With no last delta EVAL does as `FIRST_DELTA_ACCEPT` says (R161). -/
theorem evalAccepts_zero (c : Cfg) (delta : Tick) : evalAccepts c delta 0 = c.firstDeltaAccept := by
  simp [evalAccepts]

/-- A step of one axis FSM that puts out neither an event nor a condition. -/
def Silent (t : State) : Prop :=
  t.out.events = [] ∧ t.out.conditions = []

section
variable {s s1 s2 s3 : State} {x : Axis} {a b l : Tick}

/-- Sync, SyncSkip, Laser on one axis FSM from Idle: the third step is EVAL for lighthouse A with
the sync's timestamp pending, and the first two put nothing out (R163, R168, R177). -/
theorem sequenceA_evaluates (hx : (s.axis x).state = AxisState.idle)
    (h1 : ActsAlone x .sync a s s1) (h2 : ActsAlone x .skip b s1 s2)
    (h3 : ActsAlone x .laser l s2 s3) :
    let e := evalEffect s.cfg.toCfg x .a l
      { s.axis x with pendA := a, state := AxisState.expectLaserA }
    Silent s1 ∧ Silent s2 ∧
      s3.axis x = e.1 ∧ s3.out.events = e.2.1 ∧ s3.out.conditions = e.2.2 := by
  obtain ⟨hr1, hout1⟩ := h1.of_effect (axisEffect_sync_of_idle _ x a _ hx)
  obtain ⟨hr2, hout2⟩ := h2.of_effect (axisEffect_skip_of_waitSkipFromA _ x b _ (by rw [hr1]))
  have h := h3.of_effect (axisEffect_laser_of_expectLaserA _ x l _ (by rw [hr2]))
  rw [hr2, hr1, h2.cfg, h1.cfg] at h
  exact ⟨hout1, hout2, h⟩

/-- SyncSkip, Sync, Laser on one axis FSM from Idle: the third step is EVAL for lighthouse B with
the sync's timestamp pending, and the first two put nothing out (R164, R171, R181). -/
theorem sequenceB_evaluates (hx : (s.axis x).state = AxisState.idle)
    (h1 : ActsAlone x .skip a s s1) (h2 : ActsAlone x .sync b s1 s2)
    (h3 : ActsAlone x .laser l s2 s3) :
    let e := evalEffect s.cfg.toCfg x .b l
      { s.axis x with pendB := b, state := AxisState.expectLaserB }
    Silent s1 ∧ Silent s2 ∧
      s3.axis x = e.1 ∧ s3.out.events = e.2.1 ∧ s3.out.conditions = e.2.2 := by
  obtain ⟨hr1, hout1⟩ := h1.of_effect (axisEffect_skip_of_idle _ x a _ hx)
  obtain ⟨hr2, hout2⟩ := h2.of_effect (axisEffect_sync_of_seenBSync _ x b _ (by rw [hr1]))
  have h := h3.of_effect (axisEffect_laser_of_expectLaserB _ x l _ (by rw [hr2]))
  rw [hr2, hr1, h2.cfg, h1.cfg] at h
  exact ⟨hout1, hout2, h⟩

end

/-- Settles O48: EVAL with no last delta accepts, as `FIRST_DELTA_ACCEPT` says. -/
theorem sequenceAEmitsOneEvent : Obligations.SequenceAEmitsOneEvent := by
  intro s x a b l hx hlast haccept hidle s1 s2 s3
  have h1 : ActsAlone x .sync a s s1 := presentPulse_sync x a s hidle
  have h2 : ActsAlone x .skip b s1 s2 := presentPulse_skip x b s1 h1.others
  have h3 : ActsAlone x .laser l s2 s3 := presentPulse_laser x l s2 h2.others
  obtain ⟨⟨hev1, hcs1⟩, ⟨hev2, hcs2⟩, hregs, hev3, hcs3⟩ := sequenceA_evaluates hx h1 h2 h3
  have hacc : evalAccepts s.cfg.toCfg (sub32 l a) (s.axis x).lastA = true := by
    rw [hlast, evalAccepts_zero, haccept]
  simp only [evalEffect, pend_a, last_a, hacc, cond_true] at hev3 hcs3
  exact ⟨hev1, hev2, hev3, congrArg AxisRegs.lastA hregs, congrArg AxisRegs.state hregs, hcs1, hcs2,
    hcs3⟩

/-- Settles O49: the event is EVAL's for lighthouse B, whose pending timestamp is the sync's. -/
theorem sequenceBEmitsItsEvent : Obligations.SequenceBEmitsItsEvent := by
  intro s x a b l hx hidle s1 s2 s3
  have h1 : ActsAlone x .skip a s s1 := presentPulse_skip x a s hidle
  have h2 : ActsAlone x .sync b s1 s2 := presentPulse_sync x b s1 h1.others
  have h3 : ActsAlone x .laser l s2 s3 := presentPulse_laser x l s2 h2.others
  obtain ⟨⟨hev1, -⟩, ⟨hev2, -⟩, hregs, hev3, -⟩ := sequenceB_evaluates hx h1 h2 h3
  simp only [evalEffect, pend_b, last_b, cond_eq_ite] at hev3
  exact ⟨hev1, hev2, hev3, congrArg AxisRegs.lastB hregs, congrArg AxisRegs.state hregs,
    (congrArg AxisRegs.lastA hregs).trans rfl⟩

/-! ### Runs and SAMPLE steps (R83, R92) -/

/-- A run of `m` steps and then `k` is a run of `m + k`. -/
theorem core_run_add (m k : Nat) (s t : State) (h : core.run m s = .next t) :
    core.run (m + k) s = core.run k t := by
  induction m generalizing s with
  | zero =>
    cases h
    rw [Nat.zero_add]
  | succ m ih =>
    rw [Nat.succ_add]
    simp only [Host.Core.run] at h ⊢
    cases hstep : core.step s with
    | next u => rw [hstep] at h; exact ih u h
    | fault r => rw [hstep] at h; cases h
    | refused r => rw [hstep] at h; cases h

section
variable {s : State} {level : Bool} {ts : Tick} {rest : List PortWord} {d : Deb}

/-- The debouncer of a SAMPLE, its effect on the registers known. -/
theorem debounce_of_debEffect {c : Bool}
    (heff : debEffect s.cfg.toTunables level ts s.deb = (d, c)) :
    debounce level ts s.beginStep = s.beginStep.setDeb d c := by
  rw [debounce_eq, beginStep_cfg, beginStep_deb, heff]

/-- A step on `S <level> @<ts>` (R83). -/
theorem step_stimSample (hin : s.input = stimSample level ts :: rest) :
    step s = .next (sampleChain level ts (s.presenting rest).beginStep) :=
  step_of_decode s _ rest _ hin (decode_stimSample level ts)

/-- A step on a sample that commits nothing (R140). -/
theorem step_stimSample_hold (hin : s.input = stimSample level ts :: rest)
    (heff : debEffect s.cfg.toTunables level ts s.deb = (d, false)) :
    step s = .next { s with deb := d, input := rest, out := Outputs.quiet } := by
  rw [step_stimSample hin,
    sampleChain_of_hold _ _ (s.presenting rest) d (debounce_of_debEffect heff)]
  rfl

/-- A step on a sample that commits a rise (R141). -/
theorem step_stimSample_rise (hin : s.input = stimSample level ts :: rest)
    (heff : debEffect s.cfg.toTunables level ts s.deb = (d, true)) (hd : d.stable = true) :
    step s = .next
      { s with
        deb := d
        pa := ⟨d.ts⟩
        input := rest
        out := { Outputs.quiet with debCommit := true } } := by
  rw [step_stimSample hin,
    sampleChain_of_rise _ _ (s.presenting rest) d (debounce_of_debEffect heff) hd]
  rfl

/-- The router, the axis FSMs and the emitter leave the pulse on its port (R36). -/
theorem emitEvents_routePulse_pulse (type : PulseType) (rise : Tick) (s : State) :
    (emitEvents (routePulse type rise s)).out.pulse = s.out.pulse := by
  obtain ⟨_, _, hemit⟩ := emitEvents_frame (routePulse type rise s)
  rw [hemit]
  obtain ⟨-, h⟩ | ⟨a, b, -, h⟩ := routePulse_cases type rise s <;> simp only [h, setRoute_out_pulse]

theorem emitEvents_routePulse_deb (type : PulseType) (rise : Tick) (s : State) :
    (emitEvents (routePulse type rise s)).deb = s.deb := by
  obtain ⟨_, _, hemit⟩ := emitEvents_frame (routePulse type rise s)
  rw [hemit]
  exact routePulse_deb type rise s

/-- A step on a sample that commits a fall puts out the pulse since `pa.rise_ts` (R142). -/
theorem step_stimSample_fall (hin : s.input = stimSample level ts :: rest)
    (heff : debEffect s.cfg.toTunables level ts s.deb = (d, true)) (hd : d.stable = false) :
    ∃ u, step s = .next u ∧ u.deb = d ∧ u.input = rest ∧
      u.out.pulse = some ⟨s.pa.riseTs, d.ts - s.pa.riseTs,
        classify s.cfg.toTunables s.pa.riseTs d.ts⟩ := by
  refine ⟨_, (step_stimSample hin).trans (congrArg _ (sampleChain_of_fall _ _ (s.presenting rest) d
    (debounce_of_debEffect heff) hd)), ?_, ?_, ?_⟩
  · rw [emitEvents_routePulse_deb]
    rfl
  · exact (emitEvents_keepsEnvironment _).2.trans (routePulse_keepsEnvironment _ _ _).2
  · rw [emitEvents_routePulse_pulse]
    rfl

end

/-! ### EDGE and PULSE (R84, R122 to R124, R127) -/

/-- The debouncer's registers after the commit of a candidate that began at `ts` (R124, R127). -/
def Deb.committed (level : Bool) (ts : Tick) : Deb :=
  ⟨.notDebouncing, level, ts, level, ts, 0⟩

/-- The debouncer's registers after `k` samples of an edge that began at `ts`, with the threshold
still to come: one vote for each (R122, R123). -/
def Deb.afterSamples (d : Deb) (level : Bool) (ts : Tick) : Nat → Deb
  | 0 => d
  | k + 1 => { d with candTs := ts, target := level, votes := k + 1, mode := .debouncing }

theorem Deb.afterSamples_succ (d : Deb) (level : Bool) (ts : Tick) (k : Nat) :
    d.afterSamples level ts (k + 1) =
      { d with candTs := ts, target := level, votes := k + 1, mode := .debouncing } := rfl

/-- One more sample of an edge is one more vote, or the commit (R122 to R124, R127). -/
theorem debEffect_afterSamples (t : Tunables) (d : Deb) (level : Bool) (ts ts' : Tick) (k : Nat)
    (hmode : d.mode = .notDebouncing) (hstable : d.stable = !level) (hts : k = 0 → ts' = ts) :
    debEffect t level ts' (d.afterSamples level ts k) =
      if k + 1 < t.debThresh then (d.afterSamples level ts (k + 1), false)
      else (Deb.committed level ts, true) := by
  cases k with
  | zero =>
    obtain rfl := hts rfl
    have hne : level ≠ d.stable := by rw [hstable]; exact (Bool.not_ne_self level).symm
    simp only [Deb.afterSamples, debEffect, hmode, hne]
    rfl
  | succ k =>
    simp only [Deb.afterSamples_succ, debEffect, if_true, ge_iff_le]
    by_cases hk : k + 1 + 1 < t.debThresh
    · rw [if_pos hk, if_neg (Nat.not_le.mpr hk), votesUp_of_lt t _ hk]
    · rw [if_neg hk, if_pos (Nat.not_lt.mp hk)]
      rfl

/-- `u` is `s` after `k` samples of `EDGE <level> @<ts>`, with the threshold still to come: the
votes are in, nothing is put out, the rest of the edge is presented. -/
structure MidEdge (s : State) (level : Bool) (ts : Tick) (rest : List PortWord) (k : Nat)
    (u : State) : Prop where
  cfg : u.cfg = s.cfg
  pa : u.pa = s.pa
  deb : u.deb = s.deb.afterSamples level ts k
  input : ∃ ts', (k = 0 → ts' = ts) ∧
    u.input = stimRun level ts' (s.cfg.debThresh - k) ++ rest
  pulse : 1 ≤ k → u.out.pulse = none

section
variable {s : State} {level : Bool} {ts : Tick} {rest : List PortWord}

/-- The next sample of an edge, and what the debouncer makes of it. -/
theorem MidEdge.next_sample {k : Nat} {u : State} (h : MidEdge s level ts rest k u)
    (hmode : s.deb.mode = .notDebouncing) (hstable : s.deb.stable = !level)
    (hk : k < s.cfg.debThresh) :
    ∃ ts', u.input = stimSample level ts' ::
        (stimRun level (ts' + 1) (s.cfg.debThresh - (k + 1)) ++ rest) ∧
      debEffect u.cfg.toTunables level ts' u.deb =
        if k + 1 < s.cfg.debThresh then (s.deb.afterSamples level ts (k + 1), false)
        else (Deb.committed level ts, true) := by
  obtain ⟨ts', hts, hin⟩ := h.input
  obtain ⟨n, hn⟩ : ∃ n, s.cfg.debThresh - k = n + 1 := ⟨s.cfg.debThresh - k - 1, by omega⟩
  have hn' : s.cfg.debThresh - (k + 1) = n := by omega
  refine ⟨ts', ?_, ?_⟩
  · rw [hin, hn, hn']
    rfl
  · rw [h.cfg, h.deb]
    exact debEffect_afterSamples _ _ level ts ts' k hmode hstable hts

/-- A run over an edge, up to its last sample. -/
theorem run_midEdge (hmode : s.deb.mode = .notDebouncing) (hstable : s.deb.stable = !level)
    (hin : s.input = stimEdge s.cfg.toTunables level ts ++ rest) (k : Nat)
    (hk : k < s.cfg.debThresh) :
    ∃ u, core.run k s = .next u ∧ MidEdge s level ts rest k u := by
  induction k with
  | zero => exact ⟨s, rfl, rfl, rfl, rfl, ⟨ts, fun _ => rfl, hin⟩, nofun⟩
  | succ k ih =>
    obtain ⟨u, hrun, hmid⟩ := ih (by omega)
    obtain ⟨ts', hnext, heff⟩ := hmid.next_sample hmode hstable (by omega)
    rw [if_pos hk] at heff
    exact ⟨_, (core_run_succ_last k s u hrun).trans (step_stimSample_hold hnext heff), hmid.cfg,
      hmid.pa, rfl, ⟨ts' + 1, nofun, rfl⟩, fun _ => rfl⟩

/-- The last sample of an edge commits it, with the first sample's timestamp (R84). -/
theorem run_edge_commits (hmode : s.deb.mode = .notDebouncing) (hstable : s.deb.stable = !level)
    (hin : s.input = stimEdge s.cfg.toTunables level ts ++ rest) :
    ∃ u ts', core.run s.cfg.debThresh s = step u ∧ u.cfg = s.cfg ∧ u.pa = s.pa ∧
      u.input = stimSample level ts' :: rest ∧
      debEffect u.cfg.toTunables level ts' u.deb = (Deb.committed level ts, true) := by
  obtain ⟨n, hn⟩ : ∃ n, s.cfg.debThresh = n + 1 :=
    ⟨s.cfg.debThresh - 1, by have := s.cfg.wf.1.1; omega⟩
  obtain ⟨u, hrun, hmid⟩ := run_midEdge hmode hstable hin n (by omega)
  obtain ⟨ts', hnext, heff⟩ := hmid.next_sample hmode hstable (by omega)
  rw [if_neg (by omega)] at heff
  rw [hn, Nat.sub_self] at hnext
  exact ⟨u, ts', hn ▸ core_run_succ_last n s u hrun, hmid.cfg, hmid.pa, hnext, heff⟩

/-- `EDGE 1 @<ts>` from a low line latches the rise (R84, R141). -/
theorem run_edge_rise (hmode : s.deb.mode = .notDebouncing) (hstable : s.deb.stable = false)
    (hin : s.input = stimEdge s.cfg.toTunables true ts ++ rest) :
    ∃ u, core.run s.cfg.debThresh s = .next u ∧ u.cfg = s.cfg ∧ u.deb = Deb.committed true ts ∧
      u.pa = ⟨ts⟩ ∧ u.input = rest ∧ u.out.pulse = none := by
  obtain ⟨u, ts', hrun, hcfg, -, hlast, heff⟩ := run_edge_commits (level := true) hmode hstable hin
  exact ⟨_, hrun.trans (step_stimSample_rise hlast heff rfl), hcfg, rfl, rfl, rfl, rfl⟩

/-- `EDGE 0 @<ts>` from a high line puts out the pulse that ends at `ts` (R84, R142). -/
theorem run_edge_fall (hmode : s.deb.mode = .notDebouncing) (hstable : s.deb.stable = true)
    (hin : s.input = stimEdge s.cfg.toTunables false ts ++ rest) :
    ∃ u, core.run s.cfg.debThresh s = .next u ∧ u.deb = Deb.committed false ts ∧ u.input = rest ∧
      u.out.pulse =
        some ⟨s.pa.riseTs, ts - s.pa.riseTs, classify s.cfg.toTunables s.pa.riseTs ts⟩ := by
  obtain ⟨u, ts', hrun, hcfg, hpa, hlast, heff⟩ :=
    run_edge_commits (level := false) hmode hstable hin
  obtain ⟨v, hstep, hdeb, hinput, hpulse⟩ := step_stimSample_fall hlast heff rfl
  rw [hcfg, hpa] at hpulse
  exact ⟨v, hrun.trans hstep, hdeb, hinput, hpulse⟩

end

/-- Settles O60: the rising edge latches its timestamp, the falling edge after it commits the pulse,
and no sample before an edge's last puts one out. -/
theorem pulseStimulusMakesOnePulse : Obligations.PulseStimulusMakesOnePulse := by
  intro s rise width hmode hstable hin
  obtain ⟨r, hrun, hcfg, hdeb, hpa, hinput, hpulse⟩ := run_edge_rise hmode hstable hin
  have hmode' : r.deb.mode = .notDebouncing := by rw [hdeb]; rfl
  have hstable' : r.deb.stable = true := by rw [hdeb]; rfl
  have hin' : r.input = stimEdge r.cfg.toTunables false (rise + width) ++ [] := by
    rw [hinput, hcfg, List.append_nil]
  constructor
  · intro k hk1 hk
    obtain hlt | rfl | hgt := lt_trichotomy k s.cfg.debThresh
    · obtain ⟨u, hu, hmid⟩ := run_midEdge (level := true) hmode hstable hin k hlt
      exact ⟨u, hu, hmid.pulse hk1⟩
    · exact ⟨r, hrun, hpulse⟩
    · obtain ⟨j, rfl⟩ := Nat.exists_eq_add_of_lt hgt
      obtain ⟨u, hu, hmid⟩ :=
        run_midEdge (level := false) hmode' hstable' hin' (j + 1) (by rw [hcfg]; omega)
      exact ⟨u, (core_run_add _ (j + 1) s r hrun).trans hu, hmid.pulse (Nat.le_add_left 1 j)⟩
  · obtain ⟨u, hu, hdebU, hinputU, hpulseU⟩ := run_edge_fall hmode' hstable' hin'
    rw [hpa, hcfg, add_sub_cancel_left] at hpulseU
    rw [hcfg] at hu
    refine ⟨u, ?_, hpulseU, ?_, ?_, ?_, hinputU⟩
    · rw [Nat.two_mul, core_run_add _ _ s r hrun, hu]
    all_goals rw [hdebU]; rfl

end Sys2Proof.Machine
end

section
/-!
SUPPORT. 40_top_level_step.md: what IDLE leaves, what the debouncer makes of a sample in each of its
cases, and what a whole SAMPLE is when it commits nothing, a rise or a fall.
-/

namespace Sys2Proof.Machine

/-! ### IDLE (R91) -/

/-- Settles O13: IDLE is the start of a step, and `rst = 0`, `valid = 0` decode to it. -/
theorem idleWritesNoRegister : Obligations.IdleWritesNoRegister := fun l t _ =>
  ⟨rfl, congrArg Except.ok (decodeIn_inWord false false l t)⟩

/-! ### The debouncer by cases (R121 to R127) -/

section
variable {t : Tunables} {level : Bool} {ts : Tick} {d : Deb}

/-- A sample of the stable level (R121). -/
theorem debEffect_hold (hmode : d.mode = .notDebouncing) (hlevel : level = d.stable) :
    debEffect t level ts d = (d, false) := by
  simp only [debEffect, hmode, hlevel, if_true]

/-- The first sample of the other level (R122). -/
theorem debEffect_start (hmode : d.mode = .notDebouncing) (hlevel : level ≠ d.stable)
    (hthresh : 2 ≤ t.debThresh) :
    debEffect t level ts d =
      ({ d with candTs := ts, target := level, votes := 1, mode := .debouncing }, false) := by
  simp only [debEffect, hmode, if_neg hlevel, ge_iff_le, if_pos hthresh]

/-- The first sample of the other level, with a threshold of 1 (R127). -/
theorem debEffect_startCommit (hmode : d.mode = .notDebouncing) (hlevel : level ≠ d.stable)
    (hthresh : t.debThresh = 1) :
    debEffect t level ts d = (Deb.committed level ts, true) := by
  have hlow : ¬2 ≤ t.debThresh := by omega
  simp only [debEffect, hmode, if_neg hlevel, ge_iff_le, if_neg hlow, Deb.committed]

/-- A matching sample below the threshold (R123). -/
theorem debEffect_up (hmode : d.mode = .debouncing) (hlevel : level = d.target)
    (hvotes : d.votes + 1 < t.debThresh) :
    debEffect t level ts d = ({ d with votes := d.votes + 1 }, false) := by
  simp only [debEffect, hmode, if_pos hlevel, ge_iff_le, if_neg (Nat.not_le.mpr hvotes),
    votesUp_of_lt t d.votes hvotes]

/-- A matching sample that reaches the threshold (R124). -/
theorem debEffect_commit (hmode : d.mode = .debouncing) (hlevel : level = d.target)
    (hvotes : t.debThresh ≤ d.votes + 1) :
    debEffect t level ts d = (Deb.committed level d.candTs, true) := by
  simp only [debEffect, hmode, hlevel, if_true, ge_iff_le, if_pos hvotes, Deb.committed]

/-- A contrary sample with two votes or more (R125). -/
theorem debEffect_down (hmode : d.mode = .debouncing) (hlevel : level ≠ d.target)
    (hvotes : 2 ≤ d.votes) :
    debEffect t level ts d = ({ d with votes := d.votes - 1 }, false) := by
  have hsome : ¬d.votes ≤ 1 := by omega
  simp only [debEffect, hmode, if_neg hlevel, if_neg hsome,
    votesDown_of_pos t d.votes (Nat.zero_lt_of_lt hvotes)]

/-- A contrary sample with at most one vote (R126). -/
theorem debEffect_abort (hmode : d.mode = .debouncing) (hlevel : level ≠ d.target)
    (hvotes : d.votes ≤ 1) :
    debEffect t level ts d = ({ d with votes := 0, mode := .notDebouncing }, false) := by
  simp only [debEffect, hmode, if_neg hlevel, if_pos hvotes]

end

/-! ### A SAMPLE by what its debouncer commits (R92, R140 to R142) -/

/-- Routing a pulse and emitting write the axis registers, and of the outputs the route, the events, the
payloads and the conditions only (R36, R93, R200). -/
theorem emitEvents_routePulse_frame (type : PulseType) (rise : Tick) (s : State) :
    ∃ az el route events payloadAz payloadEl conditions,
      emitEvents (routePulse type rise s) =
        { s with
          az := az
          el := el
          out :=
            { s.out with
              route := route
              events := events
              payloadAz := payloadAz
              payloadEl := payloadEl
              conditions := conditions } } := by
  obtain ⟨_, _, hemit⟩ := emitEvents_frame (routePulse type rise s)
  rw [hemit]
  obtain ⟨-, h⟩ | ⟨a, b, -, h⟩ := routePulse_cases type rise s <;> rw [h] <;>
    exact ⟨_, _, _, _, _, _, _, rfl⟩

section
variable {s : State} {level : Bool} {ts : Tick} {d : Deb}

/-- A SAMPLE that commits nothing (R140). -/
theorem exec_sample_hold (heff : debEffect s.cfg.toTunables level ts s.deb = (d, false)) :
    exec (.sample level ts) s = .next { s with deb := d, out := Outputs.quiet } :=
  congrArg Host.Outcome.next (sampleChain_of_hold level ts s d (debounce_of_debEffect heff))

/-- A SAMPLE that commits a rise (R141). -/
theorem exec_sample_rise (heff : debEffect s.cfg.toTunables level ts s.deb = (d, true))
    (hd : d.stable = true) :
    exec (.sample level ts) s =
      .next { s with deb := d, pa := ⟨d.ts⟩, out := { Outputs.quiet with debCommit := true } } :=
  congrArg Host.Outcome.next (sampleChain_of_rise level ts s d (debounce_of_debEffect heff) hd)

/-- A SAMPLE that commits a fall keeps `pa.rise_ts` and puts out the pulse since then (R142). -/
theorem exec_sample_fall (heff : debEffect s.cfg.toTunables level ts s.deb = (d, true))
    (hd : d.stable = false) :
    ∃ t, exec (.sample level ts) s = .next t ∧ t.pa = s.pa ∧ t.deb = d ∧ t.out.debCommit = true ∧
      t.out.pulse =
        some ⟨s.pa.riseTs, d.ts - s.pa.riseTs, classify s.cfg.toTunables s.pa.riseTs d.ts⟩ ∧
      t.out.pulseType = some (classify s.cfg.toTunables s.pa.riseTs d.ts) := by
  obtain ⟨_, _, _, _, _, _, _, hframe⟩ := emitEvents_routePulse_frame
    (classify s.cfg.toTunables s.pa.riseTs d.ts) s.pa.riseTs (s.withPulse d)
  have hchain :=
    (sampleChain_of_fall level ts s d (debounce_of_debEffect heff) hd).trans hframe
  exact ⟨_, congrArg Host.Outcome.next hchain, rfl, rfl, rfl, rfl, rfl⟩

end

/-- Settles O20, by the two cases of a Not-Debouncing debouncer that commit nothing. -/
theorem sampleHoldsOrStarts : Obligations.SampleHoldsOrStarts := fun _ _ _ hmode =>
  ⟨fun hlevel => exec_sample_hold (debEffect_hold hmode hlevel),
    fun hlevel hthresh => exec_sample_hold (debEffect_start hmode hlevel hthresh)⟩

/-- Settles O21, by the three cases of a Debouncing debouncer that commit nothing. -/
theorem sampleMovesVotesOrAborts : Obligations.SampleMovesVotesOrAborts := fun _ _ _ hmode =>
  ⟨fun hlevel hvotes => exec_sample_hold (debEffect_up hmode hlevel hvotes),
    fun hlevel hvotes => exec_sample_hold (debEffect_down hmode hlevel hvotes),
    fun hlevel hvotes => exec_sample_hold (debEffect_abort hmode hlevel hvotes)⟩

/-- Settles O29: the committed candidate is a rise, and its target is kept. -/
theorem sampleCommitsRise : Obligations.SampleCommitsRise := by
  intro s level ts hmode hlevel hvotes htarget
  obtain rfl : level = true := hlevel.trans htarget
  simp only [exec_sample_rise (debEffect_commit hmode hlevel hvotes) rfl, Deb.committed, htarget]

/-- Settles O30: the sample is its own candidate, and commits as a rise or as a fall. -/
theorem thresholdOneCommitsAtOnce : Obligations.ThresholdOneCommitsAtOnce := by
  intro s level ts hmode hlevel hthresh
  have heff := debEffect_startCommit (ts := ts) hmode hlevel hthresh
  cases level with
  | true => exact ⟨_, exec_sample_rise heff rfl, rfl, rfl, fun _ => rfl⟩
  | false =>
    obtain ⟨t, hexec, -, hdeb, hcommit, -⟩ := exec_sample_fall heff rfl
    exact ⟨t, hexec, hdeb, hcommit, nofun⟩

/-- Settles O31: the committed candidate is a fall. -/
theorem sampleFallPutsOutPulse : Obligations.SampleFallPutsOutPulse := by
  intro s level ts hmode hlevel hvotes htarget
  obtain rfl : level = false := hlevel.trans htarget
  exact exec_sample_fall (debEffect_commit hmode hlevel hvotes) rfl

/-- Settles O33, by what the debouncer commits: nothing, a rise, or a fall. -/
theorem onlyFallsReachTheAxes : Obligations.OnlyFallsReachTheAxes := by
  intro s t level ts ht
  rcases heff : debEffect s.cfg.toTunables level ts s.deb with ⟨d, commit⟩
  cases commit with
  | false =>
    obtain rfl := Host.Outcome.next.inj (ht.symm.trans (exec_sample_hold heff))
    exact ⟨fun _ => ⟨rfl, rfl, rfl, rfl⟩, nofun, nofun⟩
  | true =>
    cases hd : d.stable with
    | true =>
      obtain rfl := Host.Outcome.next.inj (ht.symm.trans (exec_sample_rise heff hd))
      exact ⟨nofun, fun _ _ => ⟨rfl, rfl, rfl, rfl⟩, fun _ hfall => nomatch hd.symm.trans hfall⟩
    | false =>
      obtain ⟨_, hexec, hpa, hdeb, hcommit, -⟩ := exec_sample_fall heff hd
      obtain rfl := Host.Outcome.next.inj (ht.symm.trans hexec)
      exact ⟨fun hnone => by simp [hcommit] at hnone, fun _ hrise => by simp [hdeb, hd] at hrise,
        fun _ _ => hpa⟩

end Sys2Proof.Machine
end

section
/-!
SUPPORT. 41_pulse_classifier.md: the width a pulse is classified by, that at most one bin has it, and
that a pulse of a width in no bin ends at the router.
-/

namespace Sys2Proof.Machine

/-! ### The width (R100, R101) -/

/-- The width is the difference of the two timestamps modulo 2^32 (R13, R101). -/
theorem pulseWidth_toNat (rise fall : Tick) :
    (pulseWidth rise fall).toNat = (fall.toNat + 2 ^ 32 - rise.toNat) % 2 ^ 32 := by
  unfold pulseWidth sub32
  bv_omega

/-- Settles O37: equal differences are equal widths, and `classify` reads the width only. -/
theorem classifyDependsOnWidthOnly : Obligations.ClassifyDependsOnWidthOnly := by
  intro t rise fall rise' fall' hdiff
  have hwidth : pulseWidth rise fall = pulseWidth rise' fall' := by
    apply BitVec.eq_of_toNat_eq
    rw [pulseWidth_toNat, pulseWidth_toNat, hdiff]
  exact ⟨by rw [classify, classify, hwidth], pulseWidth_toNat rise fall⟩

/-! ### The bins (R11, R114) -/

/-- Settles O35: bins that share a width have one number wherever R11 holds, so a configuration where
two of them do not fails the check of R11. -/
theorem binsAreDisjoint : Obligations.BinsAreDisjoint :=
  ⟨fun c width _ _ _ _ hb hd hbw hdw =>
      ⟨bin_number_unique _ c.wf.1 width hb hd hbw hdw, (binIndex_eq_iff _ c.wf.1 width hb).mpr hbw⟩,
    fun _ width _ _ _ _ hb hd hne hbw hdw =>
      dif_neg fun hwf => hne (bin_number_unique _ hwf.1 width hb hd hbw hdw)⟩

/-! ### An INVALID pulse (R112, R144) -/

/-- A SAMPLE that puts out a pulse commits a fall, and the pulse is the classified one since
`pa.rise_ts` (R92, R142). -/
theorem exec_sample_pulse_inv {s t : State} {level : Bool} {ts : Tick} {p : Pulse}
    (ht : exec (.sample level ts) s = .next t) (hp : t.out.pulse = some p) :
    ∃ d, debEffect s.cfg.toTunables level ts s.deb = (d, true) ∧ d.stable = false ∧
      p = ⟨s.pa.riseTs, pulseWidth s.pa.riseTs d.ts,
        classify s.cfg.toTunables s.pa.riseTs d.ts⟩ := by
  rcases heff : debEffect s.cfg.toTunables level ts s.deb with ⟨d, commit⟩
  cases commit with
  | false =>
    obtain rfl := Host.Outcome.next.inj (ht.symm.trans (exec_sample_hold heff))
    cases hp
  | true =>
    cases hd : d.stable with
    | true =>
      obtain rfl := Host.Outcome.next.inj (ht.symm.trans (exec_sample_rise heff hd))
      cases hp
    | false =>
      obtain ⟨_, hexec, -, -, -, hpulse, -⟩ := exec_sample_fall heff hd
      obtain rfl := Host.Outcome.next.inj (ht.symm.trans hexec)
      exact ⟨d, rfl, hd, Option.some.inj (hp.symm.trans hpulse)⟩

/-- A step without events leaves the emitter nothing to do (R200). -/
theorem emitEvents_of_events_nil {s : State} (h : s.out.events = []) : emitEvents s = s := by
  rw [emitEvents, h]
  rfl

/-- A SAMPLE that commits a fall of an INVALID pulse ends with the pulse on its port (R144, R146). -/
theorem exec_sample_invalid {s : State} {level : Bool} {ts : Tick} {d : Deb}
    (heff : debEffect s.cfg.toTunables level ts s.deb = (d, true)) (hd : d.stable = false)
    (htype : classify s.cfg.toTunables s.pa.riseTs d.ts = PulseType.invalid) :
    exec (.sample level ts) s = .next (s.withPulse d) := by
  have hroute : routePulse PulseType.invalid s.pa.riseTs (s.withPulse d) = s.withPulse d := rfl
  calc exec (.sample level ts) s
    _ = .next (emitEvents (routePulse PulseType.invalid s.pa.riseTs (s.withPulse d))) := by
        rw [← htype]
        exact congrArg _ (sampleChain_of_fall level ts s d (debounce_of_debEffect heff) hd)
    _ = .next (s.withPulse d) := by rw [hroute, emitEvents_of_events_nil rfl]

/-- Settles O32: the pulse is that of a committed fall, and its SAMPLE ends with the pulse assembler,
which writes no axis register and signals for INVALID only. -/
theorem invalidPulseReachesNoAxis : Obligations.InvalidPulseReachesNoAxis := by
  intro s t level ts p ht hp htype
  obtain ⟨d, heff, hd, rfl⟩ := exec_sample_pulse_inv ht hp
  obtain rfl := Host.Outcome.next.inj (ht.symm.trans (exec_sample_invalid heff hd htype))
  exact ⟨rfl, rfl, rfl, rfl, if_pos htype⟩

end Sys2Proof.Machine
end

section
/-!
SUPPORT. 42_debouncer.md: that every input transaction keeps the legal states of R42, when a SAMPLE
asserts its strobe, and what runs of samples do that commit nothing before their last.
-/

namespace Sys2Proof.Machine

/-! ### The legal states by owner (R42) -/

/-- Clauses (a) to (c) of R42: no vote is held while Not-Debouncing; while Debouncing the candidate has
some votes, too few to commit, for the level that is not stable. -/
def Deb.Legal (t : Tunables) (d : Deb) : Prop :=
  d.mode = .notDebouncing ∧ d.votes = 0 ∨
    d.mode = .debouncing ∧ 1 ≤ d.votes ∧ d.votes < t.debThresh ∧ d.target ≠ d.stable

/-- Clauses (d) and (e) of R42: no reserved state code, and at most one axis FSM out of Idle. -/
def AxesLegal (az el : AxisRegs) : Prop :=
  (az.state.toNat ≤ 4 ∧ el.state.toNat ≤ 4) ∧
    (az.state = AxisState.idle ∨ el.state = AxisState.idle)

/-- A state is legal when the debouncer's registers and the axis registers are. -/
theorem legal_iff (s : State) :
    Legal s ↔ s.deb.Legal s.cfg.toTunables ∧ AxesLegal s.az s.el := by
  constructor
  · rintro ⟨-, hvotes, htarget, hdead, hstate, hactive⟩
    refine ⟨?_, hstate, hactive⟩
    cases hmode : s.deb.mode with
    | notDebouncing => exact .inl ⟨hmode, hdead hmode⟩
    | debouncing =>
      obtain ⟨hpos, hlt⟩ := hvotes hmode
      exact .inr ⟨hmode, hpos, hlt, htarget hmode⟩
  · rintro ⟨⟨hmode, hzero⟩ | ⟨hmode, hpos, hlt, hne⟩, hstate, hactive⟩
    · exact ⟨by omega, by simp [hmode], by simp [hmode], fun _ => hzero, hstate, hactive⟩
    · exact ⟨hlt.le, fun _ => ⟨hpos, hlt⟩, fun _ => hne, by simp [hmode], hstate, hactive⟩

/-- Legality is of the registers and the configuration: not of the words to come, nor of the outputs. -/
theorem Legal.of_sameRegisters {s t : State} (hs : Legal s) (hcfg : t.cfg = s.cfg)
    (hregs : SameRegisters t s) : Legal t := by
  obtain ⟨hdeb, -, haz, hel⟩ := hregs
  rw [legal_iff, hcfg, hdeb, haz, hel]
  exact (legal_iff s).mp hs

/-! ### The debouncer from a legal state (R121 to R127) -/

theorem Deb.legal_committed (t : Tunables) (level : Bool) (ts : Tick) :
    (Deb.committed level ts).Legal t := .inl ⟨rfl, rfl⟩

/-- From legal registers a sample commits nothing, keeps the stable level and stays legal, or commits
the level that was not stable. -/
theorem debEffect_cases_of_legal {t : Tunables} {d : Deb} (level : Bool) (ts : Tick)
    (ht : 1 ≤ t.debThresh) (hd : d.Legal t) :
    (∃ d', debEffect t level ts d = (d', false) ∧ d'.stable = d.stable ∧ d'.Legal t) ∨
      ∃ ts', debEffect t level ts d = (Deb.committed (!d.stable) ts', true) := by
  obtain ⟨hmode, hzero⟩ | ⟨hmode, hpos, hlt, htarget⟩ := hd
  · by_cases hlevel : level = d.stable
    · exact .inl ⟨d, debEffect_hold hmode hlevel, rfl, .inl ⟨hmode, hzero⟩⟩
    · by_cases hthresh : 2 ≤ t.debThresh
      · exact .inl ⟨_, debEffect_start hmode hlevel hthresh, rfl,
          .inr ⟨rfl, le_rfl, hthresh, hlevel⟩⟩
      · refine .inr ⟨ts, ?_⟩
        rw [debEffect_startCommit hmode hlevel (by omega), Bool.eq_not_of_ne hlevel]
  · by_cases hlevel : level = d.target
    · by_cases hvotes : d.votes + 1 < t.debThresh
      · exact .inl ⟨_, debEffect_up hmode hlevel hvotes, rfl,
          .inr ⟨hmode, Nat.le_add_left 1 _, hvotes, htarget⟩⟩
      · refine .inr ⟨d.candTs, ?_⟩
        rw [debEffect_commit hmode hlevel (by omega), hlevel, Bool.eq_not_of_ne htarget]
    · by_cases hvotes : 2 ≤ d.votes
      · exact .inl ⟨_, debEffect_down hmode hlevel hvotes, rfl,
          .inr ⟨hmode, Nat.le_sub_one_of_lt hvotes, by simp only; omega, htarget⟩⟩
      · exact .inl ⟨_, debEffect_abort hmode hlevel (by omega), rfl, .inl ⟨rfl, rfl⟩⟩

theorem debEffect_legal {t : Tunables} {d : Deb} (level : Bool) (ts : Tick)
    (ht : 1 ≤ t.debThresh) (hd : d.Legal t) : (debEffect t level ts d).1.Legal t := by
  obtain ⟨d', heff, -, hlegal⟩ | ⟨ts', heff⟩ := debEffect_cases_of_legal level ts ht hd
  · rwa [heff]
  · rw [heff]
    exact Deb.legal_committed t _ ts'

/-! ### The axis FSMs after a SAMPLE (R145, R160, R183) -/

/-- No operation leads to a reserved state code, from one either (R160, R182). -/
theorem axisEffect_state_le (c : Cfg) (x : Axis) (cls : PulseClass) (ts : Tick) (r : AxisRegs) :
    (axisEffect c x cls ts r).1.state.toNat ≤ 4 := by
  cases cls with
  | other => rw [axisEffect_other_state]; decide
  | laser => rw [axisEffect_laser_state]; decide
  | sync | skip =>
    unfold axisEffect
    simp only
    split_ifs <;> exact Nat.le_of_ble_eq_true rfl

/-- Of the two classes of a route one is OTHER or both are LASER, and those columns lead to Idle. -/
theorem axisResult_axesLegal (c : Cfg) (type : PulseType) (rise : Tick) {az el : AxisRegs}
    (h : AxesLegal az el) :
    AxesLegal (axisResult c .az rise az (routeClasses type)).1
      (axisResult c .el rise el (routeClasses type)).1 := by
  obtain hroute | hroute | ⟨cls, hroute⟩ | ⟨cls, hroute⟩ := routeClasses_cases type <;> rw [hroute]
  · exact h
  · exact ⟨⟨axisEffect_state_le .., axisEffect_state_le ..⟩, .inl (axisEffect_laser_state ..)⟩
  · exact ⟨⟨axisEffect_state_le .., axisEffect_state_le ..⟩,
      .inr (axisEffect_other_state c .el rise el)⟩
  · exact ⟨⟨axisEffect_state_le .., axisEffect_state_le ..⟩,
      .inl (axisEffect_other_state c .az rise az)⟩

/-- The route of a SAMPLE is that of a pulse type; without a pulse, that of INVALID. -/
theorem exists_sampleRoute_eq (level : Bool) (ts : Tick) (s : State) :
    ∃ type, sampleRoute level ts s = routeClasses type := by
  unfold sampleRoute
  simp only
  split_ifs
  · exact ⟨_, rfl⟩
  · exact ⟨PulseType.invalid, rfl⟩

/-! ### Every input transaction keeps the legal states (R42) -/

theorem sampleChain_legal (level : Bool) (ts : Tick) {s : State} (hs : Legal s) :
    Legal (sampleChain level ts s.beginStep) := by
  obtain ⟨hdeb, haxes⟩ := (legal_iff s).mp hs
  obtain ⟨hcfg, -⟩ := sample_keepsEnvironment level ts s
  obtain ⟨type, hroute⟩ := exists_sampleRoute_eq level ts s
  have hparts := sampleChain_parts level ts s
  have haz := hparts.axis .az
  have hel := hparts.axis .el
  simp only [axis_az, axis_el, hroute] at haz hel
  rw [legal_iff, hparts.deb, hcfg, haz, hel]
  exact ⟨debEffect_legal level ts s.cfg.wf.1.1 hdeb, axisResult_axesLegal _ type _ haxes⟩

theorem resetRegisters_legal (s : State) : Legal (resetRegisters s) :=
  (legal_iff _).mpr ⟨.inl ⟨rfl, rfl⟩, ⟨Nat.zero_le _, Nat.zero_le _⟩, .inl rfl⟩

/-- What an IN word decodes to keeps the legal states (R66). -/
theorem exec_decodeIn_legal (w : BitVec 35) {s t : State} (hs : Legal s)
    (hexec : exec (decodeIn w) s = .next t) : Legal t := by
  unfold decodeIn at hexec
  split_ifs at hexec <;> cases hexec
  · exact resetRegisters_legal s.beginStep
  · exact sampleChain_legal _ _ hs
  · exact hs.of_sameRegisters rfl ⟨rfl, rfl, rfl, rfl⟩

/-- Settles O15: the word on the port is an IN word, and each of the three transactions keeps the
clauses of R42. -/
theorem stepKeepsLegal : Obligations.StepKeepsLegal := by
  intro s t hs honly hstep
  obtain ⟨t', hstep', -, honly'⟩ := transactionsNeverStop s honly
  obtain rfl := Host.Outcome.next.inj (hstep.symm.trans hstep')
  refine ⟨?_, honly'⟩
  have hport := fetch_isTransaction s honly
  cases hfetch : s.fetch with
  | inp w =>
    have hdecode : decode s.fetch = .ok (decodeIn w) := by rw [hfetch]; rfl
    rw [step_of_decode_fetch s _ hdecode] at hstep
    have hadvance : Legal s.advance := hs.of_sameRegisters rfl ⟨rfl, rfl, rfl, rfl⟩
    exact exec_decodeIn_legal w hadvance hstep
  | _ =>
    rw [hfetch] at hport
    cases hport

/-! ### The strobe `deb_commit` (R120, R140) -/

/-- The later sub-steps leave the debouncer's strobe as it is (R36). -/
theorem sampleChain_debCommit (level : Bool) (ts : Tick) (s : State) :
    (sampleChain level ts s.beginStep).out.debCommit =
      (debEffect s.cfg.toTunables level ts s.deb).2 := by
  obtain ⟨d, heff, h⟩ | ⟨d, heff, -, h⟩ | ⟨d, heff, -, h⟩ := sampleChain_cases level ts s
  · rw [h, heff]; rfl
  · rw [h, heff]
  · obtain ⟨_, _, _, _, _, _, _, hframe⟩ := emitEvents_routePulse_frame
      (classify s.cfg.toTunables s.pa.riseTs d.ts) s.pa.riseTs (s.withPulse d)
    rw [h, heff, hframe]
    rfl

/-- Settles O26: from a legal state a SAMPLE keeps the stable level, or commits the other one. -/
theorem commitFlipsStable : Obligations.CommitFlipsStable := by
  intro s t level ts hs ht
  cases ht
  obtain ⟨hdeb, -⟩ := (legal_iff s).mp hs
  rw [sampleChain_debCommit, (sampleChain_parts level ts s).deb]
  obtain ⟨d', heff, hstable, -⟩ | ⟨ts', heff⟩ :=
    debEffect_cases_of_legal level ts s.cfg.wf.1.1 hdeb <;> rw [heff]
  · simp [hstable]
  · simp [Deb.committed]

/-! ### Runs of samples -/

section
variable {s : State} {level : Bool} {ts : Tick} {rest : List PortWord} {d : Deb}

/-- A step on a sample that commits, a rise or a fall. -/
theorem step_stimSample_commit (hin : s.input = stimSample level ts :: rest)
    (heff : debEffect s.cfg.toTunables level ts s.deb = (d, true)) :
    ∃ u, step s = .next u ∧ u.deb = d ∧ u.input = rest ∧ u.out.debCommit = true := by
  refine ⟨_, step_stimSample hin, ?_, (sample_keepsEnvironment level ts _).2, ?_⟩
  · rw [(sampleChain_parts level ts _).deb, presenting_cfg, presenting_deb, heff]
  · rw [sampleChain_debCommit, presenting_cfg, presenting_deb, heff]

/-- Two samples that commit nothing. -/
theorem run_two_held {level' : Bool} {ts' : Tick} {d' : Deb}
    (hin : s.input = stimSample level ts :: stimSample level' ts' :: rest)
    (heff : debEffect s.cfg.toTunables level ts s.deb = (d, false))
    (heff' : debEffect s.cfg.toTunables level' ts' d = (d', false)) :
    core.run 2 s = .next { s with deb := d', input := rest, out := Outputs.quiet } :=
  (core_run_succ 1 s _ (step_stimSample_hold hin heff)).trans
    (core_run_succ 0 _ _ (step_stimSample_hold rfl heff'))

end

/-- Settles O22: the first sample starts a debounce with one vote, and the second aborts it. -/
theorem glitchIsRejected : Obligations.GlitchIsRejected := by
  intro s level t1 t2 rest hmode hlevel hthresh hin
  have hstart := debEffect_start (ts := t1) hmode hlevel hthresh
  exact ⟨_, run_two_held hin hstart (debEffect_abort rfl hlevel.symm le_rfl),
    rfl, rfl, rfl, rfl, rfl, rfl, rfl, rfl⟩

section
variable {s : State} {level : Bool} {ts : List Tick} {ds : Nat → Deb}

/-- A run over samples of one level of which only the last may commit: after `k` of them the
debouncer's registers are `ds k`, and no other register is written. -/
theorem run_held (hin : s.input = ts.map (stimSample level)) (hzero : ds 0 = s.deb)
    (hheld : ∀ k (hk : k + 1 < ts.length),
      debEffect s.cfg.toTunables level ts[k] (ds k) = (ds (k + 1), false))
    (k : Nat) (hk : k < ts.length) :
    core.run k s = .next
      { s with
        deb := ds k
        input := (ts.drop k).map (stimSample level)
        out := if k = 0 then s.out else Outputs.quiet } := by
  induction k with
  | zero =>
    rw [core_run_zero, hzero, List.drop_zero, ← hin]
    rfl
  | succ k ih =>
    have hnext : (ts.drop k).map (stimSample level) =
        stimSample level ts[k] :: (ts.drop (k + 1)).map (stimSample level) := by
      rw [List.drop_eq_getElem_cons (by omega), List.map_cons]
    exact (core_run_succ_last k s _ (ih (by omega))).trans
      (step_stimSample_hold hnext (hheld k hk))

/-- The last step of such a run. -/
theorem run_held_last {n : Nat} (hin : s.input = ts.map (stimSample level)) (hzero : ds 0 = s.deb)
    (hheld : ∀ k (hk : k + 1 < ts.length),
      debEffect s.cfg.toTunables level ts[k] (ds k) = (ds (k + 1), false))
    (hn : ts.length = n + 1) :
    ∃ out, core.run (n + 1) s =
      step { s with deb := ds n, input := [stimSample level ts[n]], out := out } := by
  have hlast : ts.drop n = [ts[n]] := by
    rw [List.drop_eq_getElem_cons (by omega), List.drop_of_length_le (by omega)]
  have hrun := run_held hin hzero hheld n (by omega)
  rw [hlast] at hrun
  exact ⟨_, core_run_succ_last n s _ hrun⟩

end

/-- Settles O23: each sample before the last is a vote, and the last one commits. -/
theorem thresholdSamplesCommitOnce : Obligations.ThresholdSamplesCommitOnce := by
  intro s level t1 ts hmode hlevel hlength hin
  have hstable : s.deb.stable = !level := Bool.eq_not_of_ne hlevel.symm
  have hlength' : (t1 :: ts).length = s.cfg.debThresh := hlength
  have hvote : ∀ k (hk : k < (t1 :: ts).length),
      debEffect s.cfg.toTunables level (t1 :: ts)[k] (s.deb.afterSamples level t1 k) =
        if k + 1 < s.cfg.debThresh then (s.deb.afterSamples level t1 (k + 1), false)
        else (Deb.committed level t1, true) := fun k hk =>
    debEffect_afterSamples _ _ _ _ _ k hmode hstable fun h => by subst h; rfl
  have hheld : ∀ k (hk : k + 1 < (t1 :: ts).length),
      debEffect s.cfg.toTunables level (t1 :: ts)[k] (s.deb.afterSamples level t1 k) =
        (s.deb.afterSamples level t1 (k + 1), false) := fun k hk =>
    (hvote k (by omega)).trans (if_pos (by omega))
  constructor
  · intro k hpos hk
    obtain ⟨j, rfl⟩ := Nat.exists_eq_add_of_le' hpos
    exact ⟨_, run_held hin rfl hheld (j + 1) (by omega), rfl, rfl, rfl, rfl, rfl, rfl⟩
  · obtain ⟨out, hrun⟩ := run_held_last hin rfl hheld rfl
    have hcommits := (hvote ts.length (Nat.lt_succ_self _)).trans (if_neg (by omega))
    obtain ⟨u, hstep, hdeb, hinput, hcommit⟩ := step_stimSample_commit
      (s := { s with deb := _, input := _, out := out }) rfl hcommits
    exact ⟨u, hlength ▸ hrun.trans hstep, hcommit, by rw [hdeb]; rfl, by rw [hdeb]; rfl,
      by rw [hdeb]; rfl, hinput⟩

/-- Settles O24: each contrary sample takes a vote while two or more are left, and the one that finds
one vote aborts. -/
theorem hysteresisSurvivesVotesMinusOne : Obligations.HysteresisSurvivesVotesMinusOne := by
  intro s ts hmode hpos hlength hin
  have hcontrary : (!s.deb.target) ≠ s.deb.target := Bool.not_ne_self _
  have hheld : ∀ k (hk : k + 1 < ts.length),
      debEffect s.cfg.toTunables (!s.deb.target) ts[k] { s.deb with votes := s.deb.votes - k } =
        ({ s.deb with votes := s.deb.votes - (k + 1) }, false) := fun k hk =>
    debEffect_down hmode hcontrary (by simp only; omega)
  constructor
  · intro k hk
    exact ⟨_, run_held hin rfl hheld k (by omega), rfl⟩
  · obtain ⟨n, hn⟩ := Nat.exists_eq_add_of_le' hpos
    obtain ⟨out, hrun⟩ := run_held_last hin rfl hheld (hlength.trans hn)
    rw [hn]
    exact ⟨_, hrun.trans (step_stimSample_hold rfl
      (debEffect_abort hmode hcontrary (by simp only; omega))), rfl, rfl, rfl, rfl⟩

/-- Pairs of a matching sample and a contrary one: each pair gives a vote and takes it back (R123,
R125). -/
theorem run_alternating (ts : List (Tick × Tick)) (level : Bool) (s : State)
    (hmode : s.deb.mode = .debouncing) (hpos : 1 ≤ s.deb.votes)
    (hvotes : s.deb.votes + 1 < s.cfg.debThresh) (hlevel : level = s.deb.target)
    (hin : s.input = ts.flatMap fun p => [stimSample level p.1, stimSample (!level) p.2]) :
    ∃ u, core.run (2 * ts.length) s = .next u ∧ SameRegisters u s := by
  induction ts generalizing s with
  | nil => exact ⟨s, rfl, rfl, rfl, rfl, rfl⟩
  | cons p ts ih =>
    have hcontrary : (!level) ≠ s.deb.target := hlevel ▸ Bool.not_ne_self level
    have hpair := run_two_held hin (debEffect_up hmode hlevel hvotes)
      (debEffect_down hmode hcontrary (Nat.succ_le_succ hpos))
    obtain ⟨u, hrun, hsame⟩ :=
      ih { s with input := _, out := Outputs.quiet } hmode hpos hvotes hlevel rfl
    refine ⟨u, ?_, hsame⟩
    rw [List.length_cons, Nat.mul_succ, Nat.add_comm, core_run_add 2 _ s _ hpair]
    exact hrun

/-- Settles O25: the candidate's level is the matching one. -/
theorem alternatingSamplesNeverCommit : Obligations.AlternatingSamplesNeverCommit := by
  rintro _ s ts hmode hpos hvotes rfl hin
  exact run_alternating ts s.deb.target s hmode hpos hvotes rfl hin

end Sys2Proof.Machine
end

section
/-!
SUPPORT. 43_pulse_assembler_router.md: at most one axis FSM is out of Idle after a routed pulse, and a
SAMPLE from a legal state emits at most one event and signals at most one condition.
-/

namespace Sys2Proof.Machine

/-! ### The axis FSMs after a routed pulse (R145, R147, R183) -/

/-- The OTHER and the LASER columns lead to Idle from every state code (R160, R182). -/
theorem axisEffect_state_eq_idle (c : Cfg) (x : Axis) {cls : PulseClass} (ts : Tick) (r : AxisRegs)
    (hcls : cls = .other ∨ cls = .laser) :
    (axisEffect c x cls ts r).1.state = AxisState.idle := by
  obtain rfl | rfl := hcls
  · exact axisEffect_other_state c x ts r
  · exact axisEffect_laser_state c x ts r

/-- After a SAMPLE whose route gives an axis FSM the class OTHER or LASER, that FSM is in Idle. -/
theorem SampleParts.axis_idle {level : Bool} {ts : Tick} {s t : State}
    (h : SampleParts level ts s t) {p : PulseClass × PulseClass} (hroute : t.out.route = some p)
    (x : Axis) (hx : classFor x p = .other ∨ classFor x p = .laser) :
    (t.axis x).state = AxisState.idle := by
  rw [h.axis, ← h.route, hroute]
  exact axisEffect_state_eq_idle _ x _ _ hx

/-- Settles O39: of the two classes of a route one is OTHER or both are LASER. -/
theorem routedPulseLeavesOneActive : Obligations.RoutedPulseLeavesOneActive := by
  intro s t level ts ht
  cases ht
  have hparts := sampleChain_parts level ts s
  refine ⟨fun hrouted => ?_, fun hlaser =>
    ⟨hparts.axis_idle hlaser .az (.inr rfl), hparts.axis_idle hlaser .el (.inr rfl)⟩⟩
  obtain ⟨type, htype⟩ := exists_sampleRoute_eq level ts s
  have hroute := hparts.route.trans htype
  obtain h | h | ⟨cls, h⟩ | ⟨cls, h⟩ := routeClasses_cases type
  · exact absurd (hroute.trans h) hrouted
  · exact .inl (hparts.axis_idle (hroute.trans h) .az (.inr rfl))
  · exact .inr (hparts.axis_idle (hroute.trans h) .el (.inl rfl))
  · exact .inl (hparts.axis_idle (hroute.trans h) .az (.inl rfl))

/-! ### What a SAMPLE puts out (R144, R145, R160) -/

section
variable (c : Cfg) (ts : Tick)

/-- An operation from Idle emits nothing and signals nothing (R162 to R165). -/
theorem axisEffect_outputs_of_idle (x : Axis) (cls : PulseClass) (r : AxisRegs)
    (hr : r.state = AxisState.idle) : (axisEffect c x cls ts r).2 = ([], []) := by
  obtain ⟨st, _, _, _, _⟩ := r
  subst hr
  cases cls <;> rfl

theorem axisEffect_events_length_le (x : Axis) (cls : PulseClass) (r : AxisRegs) :
    (axisEffect c x cls ts r).2.1.length ≤ 1 := by
  obtain ⟨h | ⟨e, h, -⟩, -⟩ := axisEffect_outputs c x cls ts r <;> simp [h]

/-- With one of the two axis FSMs in Idle, only the other one has an output. -/
theorem axesOutputs_length_le (a b : PulseClass) (az el : AxisRegs)
    (hidle : az.state = AxisState.idle ∨ el.state = AxisState.idle) :
    ((axisEffect c .az a ts az).2.1 ++ (axisEffect c .el b ts el).2.1).length ≤ 1 ∧
      ((axisEffect c .az a ts az).2.2 ++ (axisEffect c .el b ts el).2.2).length ≤ 1 := by
  obtain haz | hel := hidle
  · rw [axisEffect_outputs_of_idle c ts .az a az haz]
    exact ⟨axisEffect_events_length_le c ts .el b el, (axisEffect_outputs c .el b ts el).2⟩
  · rw [axisEffect_outputs_of_idle c ts .el b el hel, List.append_nil, List.append_nil]
    exact ⟨axisEffect_events_length_le c ts .az a az, (axisEffect_outputs c .az a ts az).2⟩

end

/-- The pulse assembler signals the unclassifiable pulse, or nothing (R112, R144). -/
theorem withPulse_conditions_length_le (s : State) (d : Deb) :
    (s.withPulse d).out.conditions.length ≤ 1 := by
  unfold State.withPulse
  simp only
  split_ifs
  · exact le_rfl
  · exact Nat.zero_le 1

/-- A pulse that is routed is not INVALID, so the pulse assembler signalled nothing (R144). -/
theorem withPulse_conditions_of_routed {s : State} {d : Deb} {p : PulseClass × PulseClass}
    (hp : routeClasses (classify s.cfg.toTunables s.pa.riseTs d.ts) = some p) :
    (s.withPulse d).out.conditions = [] := by
  refine if_neg fun hinvalid => ?_
  rw [hinvalid] at hp
  cases hp

/-- Settles O55: a pulse that is not routed has the assembler's outputs only, and a routed one those of
the axis FSM that may be out of Idle. -/
theorem atMostOneEventFromLegal : Obligations.AtMostOneEventFromLegal := by
  intro s t level ts hs ht
  cases ht
  obtain ⟨-, -, hidle⟩ := (legal_iff s).mp hs
  obtain ⟨d, -, h⟩ | ⟨d, -, -, h⟩ | ⟨d, -, -, h⟩ := sampleChain_cases level ts s <;> rw [h]
  · exact ⟨Nat.zero_le 1, Nat.zero_le 1⟩
  · exact ⟨Nat.zero_le 1, Nat.zero_le 1⟩
  · obtain ⟨_, _, hemit⟩ := emitEvents_frame
      (routePulse (classify s.cfg.toTunables s.pa.riseTs d.ts) s.pa.riseTs (s.withPulse d))
    rw [hemit]
    obtain ⟨-, hr⟩ | ⟨a, b, hrouted, hr⟩ := routePulse_cases
      (classify s.cfg.toTunables s.pa.riseTs d.ts) s.pa.riseTs (s.withPulse d) <;> rw [hr]
    · exact ⟨Nat.zero_le 1, withPulse_conditions_length_le s d⟩
    · simp only [withPulse_conditions_of_routed hrouted]
      exact axesOutputs_length_le s.cfg.toCfg s.pa.riseTs a b s.az s.el hidle

end Sys2Proof.Machine
end

section
/-!
SUPPORT. 44_axis_fsm.md: the AX operations as instructions, EVAL's comparison in the naturals, and a
laser that deviates from the last one.
-/

namespace Sys2Proof.Machine

/-! ### The operations that evaluate no laser (R162 to R176, R178 to R180, R182) -/

/-- Settles O40: the words are those of the encoder; each operation is a move of the state, with a
recorded sync or a lost sequence. -/
theorem axIdleWsaOperationsComplete : Obligations.AxIdleWsaOperationsComplete := fun x ts _ =>
  ⟨⟨decodeOfEncode (.axIdleOther x ts) rfl, decodeOfEncode (.axIdleSync x ts) rfl,
    decodeOfEncode (.axIdleSkip x ts) rfl, decodeOfEncode (.axIdleLaser x ts) rfl,
    decodeOfEncode (.axWsaOther x ts) rfl, decodeOfEncode (.axWsaSync x ts) rfl,
    decodeOfEncode (.axWsaSkip x ts) rfl, decodeOfEncode (.axWsaLaser x ts) rfl⟩,
    rfl, rfl, rfl, rfl, rfl, rfl, rfl, rfl⟩

/-- Settles O41: the words are those of the encoder, which writes the class bits of AX_RSVD back. -/
theorem axSbsRsvdOperationsComplete : Obligations.AxSbsRsvdOperationsComplete := fun _ c x ts _ =>
  ⟨⟨decodeOfEncode (.axSbsOther x ts) rfl, decodeOfEncode (.axSbsSync x ts) rfl,
    decodeOfEncode (.axSbsSkip x ts) rfl, decodeOfEncode (.axSbsLaser x ts) rfl,
    decodeOfEncode (.axRsvd5 c x ts) rfl, decodeOfEncode (.axRsvd67 false c x ts) rfl,
    decodeOfEncode (.axRsvd67 true c x ts) rfl⟩,
    rfl, rfl, rfl, rfl, rfl, rfl⟩

/-- Settles O42: the words are those of the encoder; a sync in either Expect state is a pending A
sync. -/
theorem axElaElbOperationsComplete : Obligations.AxElaElbOperationsComplete := fun x ts _ =>
  ⟨⟨decodeOfEncode (.axElaOther x ts) rfl, decodeOfEncode (.axElaSync x ts) rfl,
    decodeOfEncode (.axElaSkip x ts) rfl, decodeOfEncode (.axElbOther x ts) rfl,
    decodeOfEncode (.axElbSync x ts) rfl, decodeOfEncode (.axElbSkip x ts) rfl⟩,
    rfl, rfl, rfl, rfl, rfl, rfl⟩

/-! ### EVAL (R13, R161, R177, R181) -/

theorem absdiff_eq_natAbs (a b : Tick) : absdiff a b = ((a.toNat : Int) - b.toNat).natAbs := by
  unfold absdiff
  split_ifs <;> omega

/-- Acceptance as R161 words it, with the difference taken in the integers. -/
theorem evalAccepts_iff (c : Cfg) (delta last : Tick) :
    evalAccepts c delta last = true ↔
      if last ≠ 0 then ((delta.toNat : Int) - last.toNat).natAbs < c.devThresh
      else c.firstDeltaAccept = true := by
  unfold evalAccepts
  split_ifs
  · rw [decide_eq_true_iff, absdiff_eq_natAbs]
  · rfl

section
variable (s : State) (x : Axis) (l : Lighthouse) (ts : Tick)

/-- An accepted laser writes its instance's registers and raises the pending sync's event (R161). -/
theorem eval_axisGoto_idle_of_accepts
    (h : evalAccepts s.cfg.toCfg (sub32 ts ((s.axis x).pend l)) ((s.axis x).last l) = true) :
    (s.eval x l ts).axisGoto x AxisState.idle =
      (s.setAxis x (evalEffect s.cfg.toCfg x l ts (s.axis x)).1).raiseEvent
        ⟨x, l, (s.axis x).pend l, ts⟩ := by
  rw [eval_eq, if_pos h]
  cases x <;> rfl

/-- A rejected laser writes the same registers and signals NoiseRejection (R161, R213). -/
theorem eval_axisGoto_idle_of_rejects
    (h : ¬evalAccepts s.cfg.toCfg (sub32 ts ((s.axis x).pend l)) ((s.axis x).last l) = true) :
    (s.eval x l ts).axisGoto x AxisState.idle =
      (s.setAxis x (evalEffect s.cfg.toCfg x l ts (s.axis x)).1).signal
        (.noiseRejection x l (sub32 ts ((s.axis x).pend l)) ((s.axis x).last l)) := by
  rw [eval_eq, if_neg h]
  cases x <;> rfl

end

/-- Settles O43: both laser operations are EVAL and the move to Idle, of their own lighthouse. -/
theorem lasersEvaluate : Obligations.LasersEvaluate := by
  intro x l ts s
  have haccept := evalAccepts_iff s.cfg.toCfg (sub32 ts ((s.axis x).pend l)) ((s.axis x).last l)
  have hraise := fun h => congrArg (@Host.Outcome.next State Fault Refusal)
    (eval_axisGoto_idle_of_accepts s x l ts (haccept.mpr h))
  have hsignal := fun h => congrArg (@Host.Outcome.next State Fault Refusal)
    (eval_axisGoto_idle_of_rejects s x l ts (mt haccept.mp h))
  cases l with
  | a => exact ⟨decodeOfEncode (.axElaLaser x ts) rfl, hraise, hsignal⟩
  | b => exact ⟨decodeOfEncode (.axElbLaser x ts) rfl, hraise, hsignal⟩

/-! ### A deviating delta (R161, R213) -/

/-- EVAL rejects a delta that differs from the last one by `DEV_THRESH` or more. -/
theorem evalAccepts_eq_false {c : Cfg} {delta last : Tick} (hlast : last ≠ 0)
    (hdev : c.devThresh ≤ ((delta.toNat : Int) - last.toNat).natAbs) :
    evalAccepts c delta last = false := by
  rw [← Bool.not_eq_true, evalAccepts_iff, if_pos hlast]
  exact hdev.not_gt

/-- Settles O50: the third step is EVAL for lighthouse A, which rejects the delta and remembers
it. -/
theorem deviatingDeltaIsSuppressed : Obligations.DeviatingDeltaIsSuppressed := by
  intro s x a b l hx hidle hlast hdev s3
  have h1 := presentPulse_sync x a s hidle
  have h2 := presentPulse_skip x b _ h1.others
  have h3 : ActsAlone x .laser l _ s3 := presentPulse_laser x l _ h2.others
  obtain ⟨-, -, hregs, hevents, hconditions⟩ := sequenceA_evaluates hx h1 h2 h3
  have hreject : evalAccepts s.cfg.toCfg (sub32 l a) (s.axis x).lastA = false :=
    evalAccepts_eq_false hlast hdev
  simp only [evalEffect, pend_a, last_a, hreject, cond_false] at hevents hconditions
  exact ⟨hevents, congrArg AxisRegs.lastA hregs, hconditions⟩

end Sys2Proof.Machine
end

section
/-!
SUPPORT. 45_event_emitter.md: the EMIT operations as instructions, what the emitter leaves on each
axis's payload output, and the order of a SAMPLE's events.
-/

namespace Sys2Proof.Machine

/-! ### The EMIT operations (R201 to R205) -/

/-- The payload without its byte0, which is 0 for every event (R201 to R204). -/
theorem payload_eq_low_bytes (e : Event) :
    payload e = 0#8 ++ e.sync.extractLsb' 0 8 ++ e.laser.extractLsb' 0 8 := by
  rw [payload, payloadByte0_eq_zero]
  rfl

/-- What an EMIT operation writes: its event's payload, on the output of its event's axis (R205). -/
theorem emitPayload_eq (e : Event) (s : State) :
    s.emitPayload e =
      s.setPayload e.axis (0#8 ++ e.sync.extractLsb' 0 8 ++ e.laser.extractLsb' 0 8) := by
  rw [State.emitPayload, payload_eq_low_bytes]

/-- Settles O51: the words are those of the encoder; the four operations share one pseudocode. -/
theorem emitOperationsComplete : Obligations.EmitOperationsComplete := by
  intro sync laser s
  have hemit := fun e => congrArg (@Host.Outcome.next State Fault Refusal) (emitPayload_eq e s)
  exact ⟨⟨decodeOfEncode (.emitAzA ⟨.az, .a, sync, laser⟩) rfl,
    decodeOfEncode (.emitAzB ⟨.az, .b, sync, laser⟩) rfl,
    decodeOfEncode (.emitElA ⟨.el, .a, sync, laser⟩) rfl,
    decodeOfEncode (.emitElB ⟨.el, .b, sync, laser⟩) rfl⟩,
    hemit ⟨.az, .a, sync, laser⟩, hemit ⟨.az, .b, sync, laser⟩,
    hemit ⟨.el, .a, sync, laser⟩, hemit ⟨.el, .b, sync, laser⟩⟩

/-! ### The payload outputs (R200, R204) -/

theorem emit_evtPayload (e : Event) (s : State) (x : Axis) :
    (emit e s).evtPayload x = if e.axis = x then some (payload e) else s.evtPayload x := by
  rw [emit_eq]
  obtain ⟨y, _, _, _⟩ := e
  cases y <;> cases x <;> rfl

/-- An axis's payload output is that of the axis's last event, and is kept without one. -/
theorem emitAll_evtPayload (es : List Event) (s : State) (x : Axis) :
    (emitAll es s).evtPayload x =
      ((es.reverse.find? fun e => e.axis == x).map payload).or (s.evtPayload x) := by
  induction es generalizing s with
  | nil => rfl
  | cons e es ih =>
    change (emitAll es (emit e s)).evtPayload x = _
    rw [ih, emit_evtPayload, List.reverse_cons, List.find?_append, List.find?_singleton]
    cases es.reverse.find? fun e => e.axis == x with
    | some _ => rfl
    | none => by_cases hx : e.axis = x <;> simp [hx]

/-! ### The order of the events (R207) -/

/-- At most one event of each axis, azimuth's first (R207). -/
def AzimuthFirst (es : List Event) : Prop :=
  es = (es.find? fun e => e.axis == .az).toList ++ (es.find? fun e => e.axis == .el).toList

/-- With one event of each axis at most, the last event of an axis is its first one. -/
theorem AzimuthFirst.find?_reverse {es : List Event} (h : AzimuthFirst es) (x : Axis) :
    (es.reverse.find? fun e => e.axis == x) = es.find? fun e => e.axis == x := by
  rw [h]
  cases haz : es.find? fun e => e.axis == .az with
  | none => cases es.find? fun e => e.axis == .el <;> rfl
  | some a =>
    have ha : a.axis = .az := by simpa using List.find?_some haz
    cases hel : es.find? fun e => e.axis == .el with
    | none => rfl
    | some b =>
      have hb : b.axis = .el := by simpa using List.find?_some hel
      cases x <;> simp [ha, hb]

/-- The events of one operation are its first event, if there is one. -/
theorem axisEffect_events_eq (c : Cfg) (x : Axis) (cls : PulseClass) (ts : Tick) (r : AxisRegs) :
    (axisEffect c x cls ts r).2.1 = (axisEffect c x cls ts r).2.1.head?.toList := by
  obtain ⟨h | ⟨e, h, -⟩, -⟩ := axisEffect_outputs c x cls ts r <;> rw [h] <;> rfl

/-- The events of the two axis FSMs are in their order, azimuth's operation before elevation's. -/
theorem axesEvents_azimuthFirst (c : Cfg) (a b : PulseClass) (ts : Tick) (az el : AxisRegs) :
    AzimuthFirst ((axisEffect c .az a ts az).2.1 ++ (axisEffect c .el b ts el).2.1) := by
  simp only [AzimuthFirst, List.find?_append, axisEffect_find_axis, if_true, reduceCtorEq, if_false,
    Option.or_none, Option.none_or, ← axisEffect_events_eq]

theorem evtPayload_eq_none {s : State} (haz : s.out.payloadAz = none) (hel : s.out.payloadEl = none)
    (x : Axis) : s.evtPayload x = none := by
  cases x with
  | az => exact haz
  | el => exact hel

theorem emitEvents_events (s : State) : (emitEvents s).out.events = s.out.events := by
  obtain ⟨_, _, h⟩ := emitEvents_frame s
  rw [h]

/-- A SAMPLE ends in the emitter, which finds the events in their order and no payload put out yet;
a step that routes no pulse has no event (R92, R200). -/
theorem sampleChain_eq_emitEvents (level : Bool) (ts : Tick) (s : State) :
    ∃ u, sampleChain level ts s.beginStep = emitEvents u ∧ AzimuthFirst u.out.events ∧
      ∀ x, u.evtPayload x = none := by
  obtain ⟨d, -, h⟩ | ⟨d, -, -, h⟩ | ⟨d, -, -, h⟩ := sampleChain_cases level ts s
  · exact ⟨_, h.trans (emitEvents_of_events_nil rfl).symm, rfl, evtPayload_eq_none rfl rfl⟩
  · exact ⟨_, h.trans (emitEvents_of_events_nil rfl).symm, rfl, evtPayload_eq_none rfl rfl⟩
  · refine ⟨_, h, ?_⟩
    obtain ⟨-, hr⟩ | ⟨a, b, -, hr⟩ := routePulse_cases
      (classify s.cfg.toTunables s.pa.riseTs d.ts) s.pa.riseTs (s.withPulse d) <;> rw [hr]
    · exact ⟨rfl, evtPayload_eq_none rfl rfl⟩
    · exact ⟨axesEvents_azimuthFirst _ a b _ s.az s.el, evtPayload_eq_none rfl rfl⟩

/-- Settles O54: the emitter keeps the events as the axis FSMs appended them. -/
theorem azimuthEventIsFirst : Obligations.AzimuthEventIsFirst := by
  intro s t level ts ht
  cases ht
  obtain ⟨u, hu, hfirst, -⟩ := sampleChain_eq_emitEvents level ts s
  rw [hu, State.event, State.event, emitEvents_events]
  exact hfirst

/-- Settles O53: the emitter runs once on the only event of each axis. -/
theorem everyEventHasItsPayload : Obligations.EveryEventHasItsPayload := by
  intro s t x level ts ht
  cases ht
  obtain ⟨u, hu, hfirst, hnone⟩ := sampleChain_eq_emitEvents level ts s
  calc (sampleChain level ts s.beginStep).evtPayload x
    _ = (emitAll u.out.events u).evtPayload x := by rw [hu, emitEvents]
    _ = (u.out.events.find? fun e => e.axis == x).map payload := by
      rw [emitAll_evtPayload, hfirst.find?_reverse, hnone, Option.or_none]
    _ = ((sampleChain level ts s.beginStep).event x).map payload := by
      rw [hu, State.event, emitEvents_events]

end Sys2Proof.Machine
end

section
/-!
SUPPORT. 60_exceptions.md: the condition reported, and the diagnostic outputs read from it.
-/

namespace Sys2Proof.Machine

/-! ### The condition reported (R216 (e), R225) -/

theorem diagnosed_eq_some_iff (s : State) (c : Condition) :
    s.diagnosed = some c ↔ s.cfg.debugState = true ∧ s.out.conditions.head? = some c := by
  unfold State.diagnosed
  cases s.cfg.debugState <;> simp

theorem diagValid_iff (s : State) :
    s.diagValid = true ↔ s.cfg.debugState = true ∧ s.out.conditions ≠ [] := by
  calc s.diagValid = true
    _ ↔ ∃ c, s.diagnosed = some c := Option.isSome_iff_exists
    _ ↔ s.cfg.debugState = true ∧ ∃ c, s.out.conditions.head? = some c := by
      simp only [diagnosed_eq_some_iff, exists_and_left]
    _ ↔ s.cfg.debugState = true ∧ s.out.conditions ≠ [] := by
      rw [← Option.isSome_iff_exists, List.isSome_head?]

/-! ### The outputs that go with it (R225) -/

theorem diagOutputs_of_diagnosed {s : State} {c : Condition} (h : s.diagnosed = some c) :
    s.diagInfo = some c ∧ s.diagCode = conditionCode c := by
  simp only [State.diagInfo, State.diagCode, h, and_self]

theorem diagOutputs_of_not_diagValid {s : State} (h : s.diagValid = false) :
    s.diagCode = 0 ∧ s.diagInfo = none := by
  have hnone : s.diagnosed = none :=
    Option.isNone_iff_eq_none.mp (Option.isSome_eq_false_iff.mp h)
  simp only [State.diagInfo, State.diagCode, hnone, and_self]

/-- Settles O58: the three outputs are read from the condition reported, which is the first one. -/
theorem diagnosticOutputs : Obligations.DiagnosticOutputs := by
  intro s
  refine ⟨diagValid_iff s, diagOutputs_of_not_diagValid, fun c cs hdebug hconds => ?_⟩
  have hfirst : s.diagnosed = some c :=
    (diagnosed_eq_some_iff s c).mpr ⟨hdebug, congrArg List.head? hconds⟩
  obtain ⟨hinfo, hcode⟩ := diagOutputs_of_diagnosed hfirst
  refine ⟨hinfo, hcode.trans ?_⟩
  cases c <;> rfl

end Sys2Proof.Machine
end

section
/-!
SUPPORT. 70_reset_and_hazards.md: what RESET leaves, and that `rst` goes before `valid`.
-/

namespace Sys2Proof.Machine

/-! ### RESET (R240) -/

theorem exec_reset (v l : Bool) (t : Tick) (s : State) :
    exec (.reset v l t) s = .next (resetRegisters s.beginStep) := rfl

theorem resetRegisters_sameRegisters (s : State) :
    SameRegisters (resetRegisters s) State.reset :=
  ⟨resetRegisters_deb s, resetRegisters_pa s, resetRegisters_az s, resetRegisters_el s⟩

/-- `rst` has priority: a sample in the same word is lost. -/
theorem decode_inWord_rst (v l : Bool) (t : Tick) :
    decode (.inp (inWord true v l t)) = .ok (.reset v l t) :=
  congrArg Except.ok (decodeIn_inWord true v l t)

theorem step_inWord_rst {v l : Bool} {t : Tick} {s : State} {rest : List PortWord}
    (hin : s.input = .inp (inWord true v l t) :: rest) :
    step s = .next (resetRegisters (s.presenting rest).beginStep) :=
  (step_of_decode s _ rest _ hin (decode_inWord_rst v l t)).trans (exec_reset v l t _)

/-- Settles O12: the registers RESET writes are those of R41; `valid`, `level` and `ts` do not enter. -/
theorem resetWritesEveryRegister : Obligations.ResetWritesEveryRegister := by
  intro v l t s
  refine ⟨exec_reset v l t s, decode_inWord_rst v l t, fun rest hin => ?_⟩
  exact ⟨_, step_inWord_rst hin, resetRegisters_sameRegisters _, rfl, rfl, rfl⟩

end Sys2Proof.Machine
end

section
/-!
SUPPORT. 30_encoding.md: the words that the decoder rejects.
-/

namespace Sys2Proof.Machine

/-! ### Words that are no operation (R76, R81) -/

/-- The rows of the CL table are the bin indices 0 to 9 (R76). -/
theorem decodeCl_row {sel : BitVec 4} (width : Tick) (hrow : sel.toNat < 10) :
    ∃ i, decodeCl sel width = .ok i := by
  unfold decodeCl
  generalize sel.toNat = row at hrow
  interval_cases row <;> exact ⟨_, rfl⟩

theorem decodeCl_reserved {sel : BitVec 4} (width : Tick) (hsel : 10 ≤ sel.toNat) :
    decodeCl sel width = .error (.clSelectorReserved sel) := by
  obtain ⟨above, hrow⟩ := Nat.exists_eq_add_of_le' hsel
  simp only [decodeCl, hrow]

theorem decodeCl_rejects_iff (sel : BitVec 4) (width : Tick) :
    (∃ e, decodeCl sel width = .error e) ↔ 10 ≤ sel.toNat := by
  constructor
  · rintro ⟨e, herror⟩
    by_contra hsel
    obtain ⟨i, hok⟩ := decodeCl_row width (Nat.lt_of_not_le hsel)
    cases hok.symm.trans herror
  · exact fun hsel => ⟨_, decodeCl_reserved width hsel⟩

/-- Settles O4, format by format: the decoder answers an operation on every word of the other
formats, so only the CL table's missing rows are left. -/
theorem onlyReservedWordsAreRejected : Obligations.OnlyReservedWordsAreRejected := by
  intro w
  cases w with
  | cl sel width => simp [decode, decodeCl_rejects_iff]
  | unformatted n v => exact ⟨fun _ => .inl ⟨n, v, rfl⟩, fun _ => ⟨_, rfl⟩⟩
  | inp | deb | pa | rt | ax | em => simp [decode]

end Sys2Proof.Machine
end
